-- ==== Sys2Proof/Word.lean ====
section
/-! DEFINITION. The words the CS-28 treats as bits: the byte of the link and the register of its CRC. -/

namespace Sys2Proof

/-- One byte of the serial link (R186). -/
abbrev Byte := BitVec 8

/-- The CRC-16 register of the frame check (R186). -/
abbrev Crc := BitVec 16

/-- The payload of a request or a reply: its bytes in the order they are sent. -/
abbrev Payload := List Byte

end Sys2Proof
end

