-- ==== Sys2Proof/Syntax.lean ====
section
/-! DEFINITION. The commands of the CS-28: one constructor of Instr per row of spec/opcode_table.json.
A host request is a whole valid frame and carries its raw payload; an event carries what its
environment decides (a sample, a level, a pin), and State holds the rest (log 1, 24). -/

namespace Sys2Proof

/-- The six analog channels (9.1), in the order of the STATUS layout. -/
inductive AnalogChannel
  | cavity | generator | probe1 | probe2 | probe3 | moisture
deriving DecidableEq, Repr

/-- One sample of an analog channel (R157): a conversion code, the converted value of an in-span
code ("an in-span sample is fully given by its value"), or a code out of span. -/
inductive Sample
  | code (c : Nat)
  | value (v : Int)
  | out
deriving DecidableEq, Repr

/-- The samples of one sampling expiry, one per channel (R157). -/
structure Samples where
  cavity : Sample
  generator : Sample
  probe1 : Sample
  probe2 : Sample
  probe3 : Sample
  moisture : Sample
deriving DecidableEq, Repr

/-- The two door contacts (R166). -/
inductive Contact
  | a | b
deriving DecidableEq, Repr

/-- The three level electrodes (R43). -/
inductive Electrode
  | low | normal | high
deriving DecidableEq, Repr

/-- The seven switch inputs (9.5). -/
inductive SwitchInput
  | contact (c : Contact) | tank | plug | electrode (e : Electrode)
deriving DecidableEq, Repr

/-- The two water transfer channels (4.1). -/
inductive Channel
  | fill | drain
deriving DecidableEq, Repr

/-- The flow meter edge (R73, R75). -/
inductive FlowEdge
  | rising | falling
deriving DecidableEq, Repr

/-- The retained records (R173), in the order of the STATUS record sets. -/
inductive RecordName
  | settings | scale | descale | checkpoint | startNote | slot (n : Fin 16)
deriving DecidableEq, Repr

/-- The three variant strap pins; true is the high level (R169). -/
structure StrapPins where
  cavity : Bool
  mains1 : Bool
  mains2 : Bool
deriving DecidableEq, Repr

/-- What a start finds that the part does not decide: the oscillator-stop detector (R171) and the
retained records whose integrity check fails (R178). -/
structure StartInputs where
  oscStopped : Bool
  failed : List RecordName
deriving DecidableEq, Repr

/-- What a cold start finds: the strap pins as well (R177). -/
structure ColdInputs where
  pins : StrapPins
  found : StartInputs
deriving DecidableEq, Repr

/-- The commands of the part, row for row. -/
inductive Instr
  -- host requests: a valid frame of the kind, with its payload
  | ident (p : Payload)
  | status (p : Payload)
  | restart (p : Payload)
  | standby (p : Payload)
  | climateSet (p : Payload)
  | climateOff (p : Payload)
  | budgetSet (p : Payload)
  | generatorDrain (p : Payload)
  | generatorClear (p : Payload)
  | descaleBegin (p : Payload)
  | descaleAbort (p : Payload)
  | recipeStore (p : Payload)
  | recipeRead (p : Payload)
  | recipeErase (p : Payload)
  | recipeList (p : Payload)
  | runStart (p : Payload)
  | runPause (p : Payload)
  | runResume (p : Payload)
  | runAdvance (p : Payload)
  | runAbort (p : Payload)
  | attentionPeek (p : Payload)
  | attentionTake (p : Payload)
  | attentionClose (p : Payload)
  | attentionMask (p : Payload)
  | reportTake (p : Payload)
  | reportClear (p : Payload)
  | clockSet (p : Payload)
  | clockRead (p : Payload)
  | settingsWrite (p : Payload)
  | settingsRead (p : Payload)
  | unknownKind (kind : Byte) (p : Payload)
  -- the link's own events
  | frameCheckFailed
  | frameDroppedReplyOwed
  | replySent
  | interbyteGapTimeout
  | lineBreak
  | badStopBit
  | lenOutOfRange
  | standbyByteReceived (b : Byte)
  | silence5s
  | silence120s
  -- climate, power and mains events
  | controlPeriodExpiry
  | flapTravelEnd
  | allocationWindowExpiry
  | zeroCrossing
  | mainsLoss
  -- sensor and switch events
  | samplingExpiry (x : Samples)
  | switchRawChange (i : SwitchInput) (level : Bool)
  | doorContactChange (c : Contact) (isOpen : Bool)
  | doorDisagreementTimeout
  | tankInsertion
  | tankRemoval
  | plugIn
  | unplug
  | electrodeChange (e : Electrode) (wet : Bool)
  -- water events
  | pacingExpiry (c : Channel)
  | flowEdge (e : FlowEdge)
  | pauseTimeout (c : Channel)
  | soakTimerExpiry
  | rinseHoldExpiry
  -- run, clock, store and start events
  | stepTimerExpiry
  | clockAdvance
  | retainedWriteComplete
  | coldStart (x : ColdInputs)
  | restartRequestStart (x : StartInputs)
  | resetLineAssert
  | resetLineRelease (x : StartInputs)
  | byteReceived (b : Byte)
deriving DecidableEq, Repr

end Sys2Proof
end

