-- ==== Sys2Proof/Decode.lean ====
section
/-! DEFINITION. The command a table word spells. The opcode table gives none of its rows any bits, so
no word spells a command (log 24); the link's frames are read by the receiver (Machine/LinkCommands.lean). -/

namespace Sys2Proof

/-- The command that a word of the opcode table spells: none, since no row carries bits. -/
def decodeTableWord (_nbits _w : Nat) : Option Instr := none

end Sys2Proof
end

