-- ==== Sys2Proof/Config.lean ====
section
/-! DEFINITION. What the spec leaves to the implementation: constants with no body, of which
nothing can be proved but what their types say (log 23). -/

namespace Sys2Proof.Config

/-- The design revision of the part less 1 (R191 gives the revision as 1 to 255). UNSAFE for no
claim: no proof can see its value. -/
opaque designRevisionLess1 : Fin 255

/-- The fixed curve of each analog channel, from an in-span conversion code to a value, before the
clamp to the channel's range (R157: "the curves themselves belong to the power-board design"). -/
opaque sensorCurve : AnalogChannel → Nat → Int

end Sys2Proof.Config
end

