-- ==== Sys2Proof/Machine/State.lean ====
section
/-! DEFINITION. The state of the CS-28, block by block, as plain data; the outcomes a command can
stop with; and the state right after the start event of the first power-on (log 3). -/

namespace Sys2Proof.Machine

/-! ### Clock, settings, straps -/

/-- A clock time: day 0 to 65535, second of day 0 to 86399 (R171, 7.1). -/
structure ClockTime where
  day : Nat
  sec : Nat
deriving DecidableEq, Repr

/-- The clock and its valid flag (R171). -/
structure Clock where
  time : ClockTime
  valid : Bool
deriving DecidableEq, Repr

/-- The cavity class strap (R169). -/
inductive CavityClass
  | full | compact
deriving DecidableEq, Repr

/-- The mains class strap (R169): 10 A, 13 A, 16 A, 2×16 A. -/
inductive MainsClass
  | a10 | a13 | a16 | a2x16
deriving DecidableEq, Repr

/-- The straps as read at the last cold start (R169). -/
structure Straps where
  cavity : CavityClass
  mains : MainsClass
deriving DecidableEq, Repr

/-- The ten settings (R176). -/
structure Settings where
  budget : Nat
  shed : Nat
  hardness : Nat
  kf : Nat
  edge : FlowEdge
  prescale : Nat
  agentClass : Nat
  resumeWindow : Nat
  offset : Int
  lampCooking : Bool
deriving DecidableEq, Repr

/-! ### Cavity climate -/

/-- The seven cooking modes (R1). -/
inductive Mode
  | fanBake | topBottom | grill | fanGrill | bottomHeat | steam | combi
deriving DecidableEq, Repr

/-- The bias (R2); `dflt` is DEFAULT. -/
inductive Bias
  | dflt | heatFirst | steamFirst
deriving DecidableEq, Repr

/-- The climate state (R3). -/
inductive ClimateState
  | off | active | suspended | fault
deriving DecidableEq, Repr

/-- The suspension reason set (R4, R5). -/
structure Reasons where
  door : Bool
  runHold : Bool
  silent : Bool
  sensor : Bool
deriving DecidableEq, Repr

/-- The setpoint source (R9). -/
inductive Source
  | link | run
deriving DecidableEq, Repr

/-- The flap state; MOVING carries its direction (R20). -/
inductive Flap
  | isOpen | isClosed | movingOpen | movingClosed
deriving DecidableEq, Repr

/-- The climate controller's record (chapter 1). -/
structure Climate where
  mode : Mode
  ts : Int
  ms : Nat
  fan : Nat
  bias : Bias
  source : Source
  state : ClimateState
  reasons : Reasons
  integral : Int
  u : Nat
  shortfall : Bool
  openLoop : Bool
  flap : Flap
  flapPos : Nat
  overtemp : Bool
  steamWanted : Bool
  lampMark : Bool
  periodTimer : Bool
deriving DecidableEq, Repr

/-! ### Power sharing -/

/-- One value per heating load (R26). -/
structure PerLoad (α : Type) where
  ring : α
  top : α
  bottom : α
  gen : α
deriving DecidableEq, Repr

/-- The heating loads (R26). -/
inductive Load
  | ring | top | bottom | gen
deriving DecidableEq, Repr

/-- One row of the request table (2.3). -/
structure Row where
  watts : Nat
  prio : Nat
deriving DecidableEq, Repr

/-- The names of the interlocks (2.5). -/
inductive Interlock
  | door | overtemp | dryFire | dryLevel | standby | mainsLoss
deriving DecidableEq, Repr

/-- The interlock set of one heating load (R36 to R39). -/
structure LockSet where
  door : Bool
  overtemp : Bool
  dryFire : Bool
  dryLevel : Bool
  standby : Bool
  mainsLoss : Bool
deriving DecidableEq, Repr

/-- The output stage of one heating load: interlock set, firing accumulator, half-cycle counts,
applied power of the last completed window, and whether it is switched on now (R40, R41). -/
structure LoadOut where
  locks : LockSet
  acc : Nat
  counted : Nat
  fired : Nat
  applied : Nat
  firing : Bool
deriving DecidableEq, Repr

/-- The power sharing block (chapter 2); budget and shed level stand in Settings. -/
structure Share where
  requests : PerLoad Row
  grants : PerLoad Nat
  fixed : Nat
  windowTimer : Bool
  loads : PerLoad LoadOut
deriving DecidableEq, Repr

/-! ### Steam generator -/

/-- The level state (R43). -/
inductive Level
  | dry | low | normal | high
deriving DecidableEq, Repr

/-- The generator states, in the order of the table of 3.2. -/
inductive GenState
  | idle | filling | heating | ready | cooling | draining | waitWater | descale | fault
deriving DecidableEq, Repr

/-- What the generator holds a channel for (chapter 3, record list): a service fill, a refill, or a
service drain. -/
inductive Purpose
  | serviceFill | refill | serviceDrain
deriving DecidableEq, Repr

/-- The SCALE record: account S and remainders r_w and r_s (R59, R61). -/
structure ScaleRec where
  scale : Nat
  rw : Nat
  rs : Nat
deriving DecidableEq, Repr

/-- The generator record (chapter 3). `fillRefused` remembers a refused service fill, whose decision
is made again at the next level change (R58). -/
structure Generator where
  state : GenState
  level : Level
  demand : Nat
  prio : Nat
  dryFire : Bool
  serviceDrain : Bool
  descaleTake : Bool
  held : Option Purpose
  account : ScaleRec
  fillRefused : Bool
deriving DecidableEq, Repr

/-! ### Water transfer channels -/

/-- The state of a channel record (R64). -/
inductive ChannelState
  | idle | active | paused | ended
deriving DecidableEq, Repr

/-- The owner of a channel (4.1). -/
inductive Owner
  | none | generator | descale
deriving DecidableEq, Repr

/-- How a transfer is bounded by the level (4.3). -/
inductive TransferMode
  | unsync | destSync | sourceSync
deriving DecidableEq, Repr

/-- Why a transfer ended (R80). -/
inductive EndReason
  | level | count | noFlow | sourceLost | stopped | interlock
deriving DecidableEq, Repr

/-- A channel record (4.1); the flow fields stay 0 on DRAIN. `pauseMs` is the pause elapsed in ms. -/
structure ChannelRec where
  state : ChannelState
  owner : Owner
  mode : TransferMode
  target : Option Level
  limit : Nat
  strokes : Nat
  runOn : Option Nat
  flow : Nat
  noFlow : Nat
  divider : Nat
  pauseMs : Nat
  endReason : Option EndReason
  levelAtEnd : Option Level
deriving DecidableEq, Repr

/-! ### Descaling -/

/-- The descale phases (5.1). -/
inductive DescalePhase
  | idle | drainOld | addAgent | agentFill | soak | agentDrain | refillClean | rinseFill
  | rinseHold | rinseDrain
deriving DecidableEq, Repr

/-- The retained DESCALE record (R82). -/
structure DescaleRec where
  phase : DescalePhase
  minutes : Nat
  rinses : Nat
  rinseOwed : Bool
  soakDone : Bool
  aborted : Bool
  agentRedo : Bool
deriving DecidableEq, Repr

/-- The tank cycle mark (R92). -/
inductive TankCycle
  | none | removed | cycled
deriving DecidableEq, Repr

/-- The water wait mark (R88). -/
inductive WaterWait
  | tankEmpty | tankMissing
deriving DecidableEq, Repr

/-- The descaling block: the retained record and the working marks (5.1). -/
structure Descale where
  kept : DescaleRec
  seconds : Nat
  holdMs : Nat
  holdTimer : Bool
  tankCycle : TankCycle
  wait : Option WaterWait
  transfer : Option Channel
  heater : Nat
  soakTimer : Bool
deriving DecidableEq, Repr

/-! ### Recipes -/

/-- The mode of a recipe step: a climate mode or REST (1.1, R101). -/
inductive StepMode
  | cook (m : Mode)
  | rest
deriving DecidableEq, Repr

/-- The end kinds (R101). -/
inductive EndKind
  | time | core | heatUnits | confirm
deriving DecidableEq, Repr

/-- The prompt kinds (R101). -/
inductive PromptKind
  | none | insertFood | turnFood | addLiquid | removeFood | checkFood
deriving DecidableEq, Repr

/-- A recipe step (R101), setpoints as given. -/
structure Step where
  mode : StepMode
  setpoint : Int
  moisture : Nat
  fan : Nat
  bias : Bias
  endKind : EndKind
  limit : Nat
  coreTarget : Option Int
  huTarget : Option Nat
  huBase : Option Int
  prompt : PromptKind
  preheat : Bool
  doorCycle : Bool
deriving DecidableEq, Repr

/-- A recipe: name, steps, end lamp flag (R100). -/
structure Recipe where
  name : List Byte
  steps : List Step
  keepLamp : Bool
deriving DecidableEq, Repr

/-- The resident record of a slot; an absent recipe is EMPTY (R99). -/
structure SlotRec where
  recipe : Option Recipe
  count : Nat
deriving DecidableEq, Repr

/-! ### Recipe runner -/

/-- The run state (R112). -/
inductive RunState
  | idle | pending | running
deriving DecidableEq, Repr

/-- The start modes (R114). -/
inductive StartMode
  | now | atTime | readyBy
deriving DecidableEq, Repr

/-- The step phases (7.3). -/
inductive StepPhase
  | preheat | prompt | active
deriving DecidableEq, Repr

/-- The hold set (7.4). -/
structure HoldSet where
  door : Bool
  pause : Bool
  steam : Bool
  probe : Bool
  silent : Bool
  sensor : Bool
  power : Bool
deriving DecidableEq, Repr

/-- The door cycle (7.1). -/
inductive DoorCycle
  | none | opened | cycled
deriving DecidableEq, Repr

/-- The fields of the run context that belong to the step and are reset at each step start (R118). -/
structure StepFields where
  active : Nat
  held : Nat
  preheat : Nat
  heat : Nat
  doorCount : Nat
  firstDoor : Option ClockTime
  lastDoor : Option ClockTime
  doorOpen : Nat
  steamShort : Nat
  powerLimited : Nat
  preheatLong : Bool
  promptSkipped : Bool
  doorCycle : DoorCycle
  probeCount : Nat
deriving DecidableEq, Repr

/-- Where a restored run goes on at the end of start-up (R138): a fresh first step, or the
checkpoint's phase with its active seconds and heat units. -/
inductive Resume
  | fresh
  | at (phase : StepPhase) (active heat : Nat)
deriving DecidableEq, Repr

/-- The run context (7.1). -/
structure Run where
  state : RunState
  recipe : Option Recipe
  slot : Option (Fin 16)
  writeCount : Nat
  runId : Nat
  startMode : StartMode
  startTime : Option ClockTime
  stepIndex : Nat
  phase : Option StepPhase
  hold : HoldSet
  step : StepFields
  sensorCount : Nat
  stepTimer : Bool
  delayed : Bool
  resume : Option Resume
deriving DecidableEq, Repr

/-- Why a step ended (7.7). -/
inductive StepEnd
  | time | coreReached | huReached | limit | confirmed | skipped | aborted | fault | silent
  | sensor | powerLoss
deriving DecidableEq, Repr

/-- Why a run ended (R132). -/
inductive RunEnd
  | finished | aborted | fault | silent | sensor | powerLoss
deriving DecidableEq, Repr

/-- A step report (7.7). -/
structure Report where
  runId : Nat
  stepIndex : Nat
  reason : StepEnd
  active : Nat
  held : Nat
  doorCount : Nat
  firstDoor : Option ClockTime
  lastDoor : Option ClockTime
  core : Option Int
  heat : Nat
  preheatLong : Bool
  promptSkipped : Bool
  powerLimited : Bool
  steamShort : Bool
  steamShortSecs : Nat
deriving DecidableEq, Repr

/-- The step report queue, oldest first (R134). -/
structure Reports where
  list : List Report
  overflow : Bool
deriving DecidableEq, Repr

/-- The checkpoint (7.8); the phase is absent while PENDING, and until the first step start of a run
that a restore entered at once (R138). -/
structure Checkpoint where
  slot : Fin 16
  writeCount : Nat
  runId : Nat
  startMode : StartMode
  running : Bool
  startTime : Option ClockTime
  stepIndex : Nat
  phase : Option StepPhase
  active : Nat
  heat : Nat
  time : Option ClockTime
deriving DecidableEq, Repr

/-! ### Attention list -/

/-- The seventeen kinds, in code order (R141). -/
inductive AttnKind
  | cavityOvertemp | generatorFault | sensorFault | powerRestored | tankMissing | tankEmpty
  | addDescaler | emptyAndRefill | stepPrompt | stepCheck | probeNeeded | steamLocked | runEnded
  | doorOpen | clockInvalid | descaleDue | descaleDone
deriving DecidableEq, Repr

/-- The sources of SENSOR_FAULT (R141). -/
inductive FaultSource
  | cavity | generator | probe | moisture | door | level
deriving DecidableEq, Repr

/-- The detail set of SENSOR_FAULT. -/
structure SourceSet where
  cavity : Bool
  generator : Bool
  probe : Bool
  moisture : Bool
  door : Bool
  level : Bool
deriving DecidableEq, Repr

/-- The detail of an entry, by kind (R141). -/
inductive Detail
  | none
  | sources (x : SourceSet)
  | prompt (k : PromptKind) (step : Nat)
  | step (step : Nat)
  | runEnd (reason : RunEnd) (runId : Nat)
deriving DecidableEq, Repr

/-- The state of an entry (R140). -/
inductive EntryState
  | pending | inService | acknowledged
deriving DecidableEq, Repr

/-- An attention entry (R140). -/
structure Entry where
  kind : AttnKind
  state : EntryState
  time : Option ClockTime
  detail : Detail
deriving DecidableEq, Repr

/-- The attention list: entries in raise order, the in-service chain with the earliest first, the
mask and the threshold (R140, R145, R146). -/
structure Attn where
  entries : List Entry
  chain : List AttnKind
  mask : List AttnKind
  threshold : Nat
deriving DecidableEq, Repr

/-! ### Sensors and switches -/

/-- The validity state of a channel (R158). -/
inductive Validity
  | starting | valid | invalid
deriving DecidableEq, Repr

/-- The record of one analog channel (9.1); `taken` counts the samples seen in STARTING (R158). -/
structure Analog where
  validity : Validity
  run : Nat
  last : Option Int
  window : List Int
  taken : Nat
deriving DecidableEq, Repr

/-- The six analog channels. -/
structure Sensors where
  cavity : Analog
  generator : Analog
  probe1 : Analog
  probe2 : Analog
  probe3 : Analog
  moisture : Analog
deriving DecidableEq, Repr

/-- One switch input: raw level, debounced state, the 50 ms debounce while it runs, and whether its
first reading is still to come, which counts in the settling interval alone (R165). True is OPEN,
PRESENT, PLUGGED or WET. -/
structure Switch where
  raw : Bool
  deb : Bool
  timer : Option Nat
  unread : Bool
deriving DecidableEq, Repr

/-- The seven switch inputs and the door-contact disagreement timer (R165, R166). -/
structure Switches where
  contactA : Switch
  contactB : Switch
  tank : Switch
  plug : Switch
  eLow : Switch
  eNormal : Switch
  eHigh : Switch
  disagree : Bool
deriving DecidableEq, Repr

/-! ### Retained store -/

/-- The START NOTE (R173). -/
structure StartNote where
  lost : List RecordName
  resetMark : Bool
deriving DecidableEq, Repr

/-- A write of one record, with the contents as they stood when it was queued (R174). -/
inductive Write
  | settings (v : Settings)
  | scale (v : ScaleRec)
  | descale (v : DescaleRec)
  | checkpoint (v : Option Checkpoint)
  | slot (n : Fin 16) (v : SlotRec)
  | startNote (v : StartNote)
deriving DecidableEq, Repr

/-- The retained store: the records (R173), the write in flight and the pending writes in queueing
order (R174). -/
structure Store where
  settings : Settings
  scale : ScaleRec
  descale : DescaleRec
  checkpoint : Option Checkpoint
  slots : Vector SlotRec 16
  note : StartNote
  inFlight : Option Write
  queue : List Write
deriving DecidableEq, Repr

/-! ### Message link -/

/-- The receiver state (R187). -/
inductive RxState
  | hunt | length | body | check
deriving DecidableEq, Repr

/-- A reply frame's KIND and payload; the status byte is the payload's first (R186). -/
structure Reply where
  kind : Byte
  body : Payload
deriving DecidableEq, Repr

/-- The message link: the receiver, the reply owed, the dropped flag (R188), and a taken RESTART
that waits for its reply to be sent (R180). -/
structure Link where
  rx : RxState
  len : Nat
  buf : List Byte
  check : List Byte
  owed : Option Reply
  dropped : Bool
  droppedAgain : Bool
  restart : Bool
deriving DecidableEq, Repr

/-- The silence timer and the silence mark (R193); `ms` is its elapsed time. -/
structure Silence where
  running : Bool
  ms : Nat
  mark : Bool
deriving DecidableEq, Repr

/-! ### Power state and starts -/

/-- The power state (R182). -/
inductive PowerState
  | awake | standbyRequested | standby
deriving DecidableEq, Repr

/-- The wake causes (R184). -/
inductive WakeCause
  | link | door | tank | probe | startDue
deriving DecidableEq, Repr

/-- The start causes (10.5). -/
inductive StartCause
  | powerOn | mainsReturn | restartRequest | resetLine
deriving DecidableEq, Repr

/-- The start record (R177). -/
structure StartRecord where
  cause : StartCause
  replaced : List RecordName
  lost : List RecordName
  oscStopped : Bool
  discarded : Bool
deriving DecidableEq, Repr

/-- Which flush of the store runs (R175, R180, R181). -/
inductive Flush
  | none | mains | resetLine | restart
deriving DecidableEq, Repr

/-- How far the START NOTE of a flush is (R175). -/
inductive NoteStage
  | waiting | inFlight | written
deriving DecidableEq, Repr

/-- Where the part stands between its starts (chapter 10). -/
structure Life where
  settling : Option Nat
  mainsLost : Bool
  resetLine : Bool
  flush : Flush
  note : NoteStage
  noteMark : Bool
  releaseDue : Option StartInputs
  coldDue : Option ColdInputs
  power : PowerState
  wake : Option WakeCause
  start : StartRecord
  startClock : Option ClockTime
deriving DecidableEq, Repr

/-- Everything the spec gives the part. -/
structure Block where
  clock : Clock
  settings : Settings
  straps : Straps
  pins : StrapPins
  life : Life
  climate : Climate
  share : Share
  gen : Generator
  fill : ChannelRec
  drain : ChannelRec
  descale : Descale
  run : Run
  runCounter : Nat
  reports : Reports
  attn : Attn
  sensors : Sensors
  switches : Switches
  store : Store
  link : Link
  silence : Silence
deriving DecidableEq, Repr

/-- The state of the machine: the part, and the queue of the commands that wait, first in, first
out. -/
structure State extends Block where
  pending : List Instr
deriving DecidableEq, Repr

/-- The reasons the machine could stop with a fault. None: every event the spec gives the part ends
in a state the spec describes (climate FAULT and generator FAULT are such states). Safe. -/
inductive Fault
deriving DecidableEq, Repr

/-- The reasons a command has no meaning. -/
inductive Refusal
  /-- Raised by a dispatch arm whose command has no meaning in the model yet; no arm is left with
  it. Safe: nothing can be proved of a refused command's effect. -/
  | notModelled (mnemonic : String)
deriving DecidableEq, Repr

/-! ### The state right after the first power-on -/

/-- The retained records in the order of the STATUS sets (11.5). -/
def allRecords : List RecordName :=
  [.settings, .scale, .descale, .checkpoint, .startNote] ++ (List.finRange 16).map .slot

/-- The default settings of a 10 A part (R176, R27). -/
def Settings.initial : Settings :=
  { budget := 2300, shed := 7, hardness := 180, kf := 1800, edge := .rising, prescale := 1,
    agentClass := 2, resumeWindow := 10, offset := 0, lampCooking := true }

/-- The climate after a start (R1 to R22); DOOR and SENSOR stand until the inputs are known (R4). -/
def Climate.initial : Climate :=
  { mode := .fanBake, ts := 1800, ms := 50, fan := 3, bias := .dflt, source := .link,
    state := .off, reasons := { door := true, runHold := false, silent := false, sensor := true },
    integral := 0, u := 0, shortfall := false, openLoop := false, flap := .movingOpen,
    flapPos := 0, overtemp := false, steamWanted := false, lampMark := false,
    periodTimer := false }

/-- An interlock set holding DOOR alone (R36: the undecided door counts as open). -/
def LockSet.doorOnly : LockSet :=
  { door := true, overtemp := false, dryFire := false, dryLevel := false, standby := false,
    mainsLoss := false }

/-- A load's output stage after a start (R41). -/
def LoadOut.initial : LoadOut :=
  { locks := .doorOnly, acc := 0, counted := 0, fired := 0, applied := 0, firing := false }

/-- Power sharing after a start (R30, R33, R36, R38). -/
def Share.initial : Share :=
  { requests := ⟨⟨0, 2⟩, ⟨0, 2⟩, ⟨0, 2⟩, ⟨0, 2⟩⟩, grants := ⟨0, 0, 0, 0⟩, fixed := 0,
    windowTimer := false,
    loads := ⟨.initial, .initial, .initial,
      { LoadOut.initial with locks := { LockSet.doorOnly with dryLevel := true } }⟩ }

/-- The generator after a start, with its account (R63). -/
def Generator.initial (a : ScaleRec) : Generator :=
  { state := .idle, level := .dry, demand := 0, prio := 2, dryFire := false,
    serviceDrain := false, descaleTake := false, held := none, account := a, fillRefused := false }

/-- A channel after a start (R65). -/
def ChannelRec.initial : ChannelRec :=
  { state := .idle, owner := .none, mode := .unsync, target := none, limit := 1, strokes := 0,
    runOn := none, flow := 0, noFlow := 0, divider := 0, pauseMs := 0, endReason := none,
    levelAtEnd := none }

/-- The DESCALE record with nothing in progress (R82). -/
def DescaleRec.initial : DescaleRec :=
  { phase := .idle, minutes := 0, rinses := 0, rinseOwed := false, soakDone := false,
    aborted := false, agentRedo := false }

/-- The descaling block after a start, with its record (R82). -/
def Descale.initial (r : DescaleRec) : Descale :=
  { kept := r, seconds := 0, holdMs := 0, holdTimer := false, tankCycle := .none, wait := none,
    transfer := none, heater := 0, soakTimer := false }

/-- The empty hold set. -/
def HoldSet.empty : HoldSet :=
  { door := false, pause := false, steam := false, probe := false, silent := false,
    sensor := false, power := false }

/-- The step fields as a step start resets them (R118). -/
def StepFields.initial : StepFields :=
  { active := 0, held := 0, preheat := 0, heat := 0, doorCount := 0, firstDoor := none,
    lastDoor := none, doorOpen := 0, steamShort := 0, powerLimited := 0, preheatLong := false,
    promptSkipped := false, doorCycle := .none, probeCount := 0 }

/-- The cleared run context (R112); its start mode is NOW, its run id and step index 0, and a PENDING run
keeps the step index 0 (log 15). -/
def Run.cleared : Run :=
  { state := .idle, recipe := none, slot := none, writeCount := 0, runId := 0, startMode := .now,
    startTime := none, stepIndex := 0, phase := none, hold := .empty, step := .initial,
    sensorCount := 0, stepTimer := false, delayed := false, resume := none }

/-- The attention list before anything is raised (R155). -/
def Attn.empty : Attn := { entries := [], chain := [], mask := [], threshold := 7 }

/-- A channel before its first sample (R158). -/
def Analog.starting : Analog :=
  { validity := .starting, run := 0, last := none, window := [], taken := 0 }

/-- The channels after a start (R158). -/
def Sensors.initial : Sensors :=
  ⟨.starting, .starting, .starting, .starting, .starting, .starting⟩

/-- A switch right after a start: the safe value until the raw level has held steady (R165). -/
def Switch.atStart (raw safe : Bool) : Switch :=
  { raw := raw, deb := safe, timer := some 0, unread := true }

/-- The switches at the first power-on, each raw level at its safe value (DESIGN CHOICE, log 4). -/
def Switches.initial : Switches :=
  { contactA := .atStart true true, contactB := .atStart true true, tank := .atStart false false,
    plug := .atStart false false, eLow := .atStart false false, eNormal := .atStart false false,
    eHigh := .atStart false false, disagree := false }

/-- The scale account of a replaced SCALE record of a FULL part (R61). -/
def ScaleRec.replacedFull : ScaleRec := { scale := 30000, rw := 0, rs := 0 }

/-- An EMPTY slot with write count 0 (R99). -/
def SlotRec.empty : SlotRec := { recipe := none, count := 0 }

/-- The retained store once the first power-on has replaced every record (R173). -/
def Store.initial : Store :=
  { settings := .initial, scale := .replacedFull, descale := .initial, checkpoint := none,
    slots := Vector.replicate 16 .empty, note := { lost := [], resetMark := false },
    inFlight := none, queue := [] }

/-- The link before the receiver starts (R187, R188). -/
def Link.initial : Link :=
  { rx := .hunt, len := 0, buf := [], check := [], owed := none, dropped := false,
    droppedAgain := false, restart := false }

/-- The silence timer stopped and the mark clear (R193). -/
def Silence.stopped : Silence := { running := false, ms := 0, mark := false }

/-- The part right after the start event of the first power-on, at the beginning of its settling
interval (R171, R173, R177 to R179). -/
def Block.reset : Block :=
  { clock := { time := ⟨0, 0⟩, valid := false }
    settings := .initial
    straps := { cavity := .full, mains := .a10 }
    pins := { cavity := false, mains1 := false, mains2 := false }
    life :=
      { settling := some 0, mainsLost := false, resetLine := false, flush := .none,
        note := .waiting, noteMark := false, releaseDue := none, coldDue := none,
        power := .awake, wake := none,
        start := { cause := .powerOn, replaced := allRecords, lost := [], oscStopped := true,
                   discarded := false },
        startClock := none }
    climate := .initial
    share := .initial
    gen := .initial .replacedFull
    fill := .initial
    drain := .initial
    descale := .initial .initial
    run := .cleared
    runCounter := 0
    reports := { list := [], overflow := false }
    attn :=
      { Attn.empty with
        entries := [⟨.clockInvalid, .pending, none, .none⟩, ⟨.descaleDue, .pending, none, .none⟩] }
    sensors := .initial
    switches := .initial
    store := .initial
    link := .initial
    silence := .stopped }

/-- The machine right after reset: the part at its first power-on, no command waiting. -/
def State.reset : State := { Block.reset with pending := [] }

end Sys2Proof.Machine
end

