-- ==== Sys2Proof/Machine/Tables.lean ====
section
/-! DEFINITION. The constant tables of the spec: modes, ranges, ratings, thresholds, attention kinds,
and the clamps and saturations of 00_scope.md. -/

namespace Sys2Proof.Machine

/-! ### Arithmetic conventions (00_scope.md) -/

/-- Clamped to [lo, hi]. -/
def clampInt (lo hi v : Int) : Int := max lo (min hi v)

/-- Clamped to [lo, hi]. -/
def clampNat (lo hi v : Nat) : Nat := max lo (min hi v)

/-- One more, saturating at the top value. -/
def satInc (top n : Nat) : Nat := min top (n + 1)

/-! ### Per-load access -/

/-- The value of one load. -/
def PerLoad.get {α : Type} (x : PerLoad α) : Load → α
  | .ring => x.ring
  | .top => x.top
  | .bottom => x.bottom
  | .gen => x.gen

/-- Every load's value changed by its own function. -/
def PerLoad.mapWith {α β : Type} (f : Load → α → β) (x : PerLoad α) : PerLoad β :=
  ⟨f .ring x.ring, f .top x.top, f .bottom x.bottom, f .gen x.gen⟩

/-! ### Climate (1.1) -/

/-- The steam modes (1.1). -/
def Mode.isSteam : Mode → Bool
  | .steam | .combi => true
  | _ => false

/-- The modes whose fan runs (R1, R19). -/
def Mode.runsFan : Mode → Bool
  | .fanBake | .fanGrill | .steam | .combi => true
  | .topBottom | .grill | .bottomHeat => false

/-- The temperature range of a mode, in tenths (R2). -/
def Mode.tsRange : Mode → Int × Int
  | .steam => (300, 1000)
  | .combi => (1000, 2300)
  | _ => (300, 2500)

/-- The gain Kp (1.1). -/
def Mode.kp : Mode → Int
  | .fanBake => 48
  | .topBottom => 40
  | .grill => 64
  | .fanGrill => 48
  | .bottomHeat => 40
  | .steam => 56
  | .combi => 48

/-- The gain Ki (1.1). -/
def Mode.ki : Mode → Int
  | .fanBake => 6
  | .topBottom => 5
  | .grill => 4
  | .fanGrill => 5
  | .bottomHeat => 4
  | .steam => 8
  | .combi => 6

/-- The share of the output each element takes, in percent; an element the mode does not list takes
none (R1). -/
def Mode.shares : Mode → PerLoad Nat
  | .fanBake => ⟨100, 0, 0, 0⟩
  | .topBottom => ⟨0, 55, 45, 0⟩
  | .grill => ⟨0, 100, 0, 0⟩
  | .fanGrill => ⟨30, 70, 0, 0⟩
  | .bottomHeat => ⟨0, 0, 100, 0⟩
  | .steam => ⟨0, 0, 0, 0⟩
  | .combi => ⟨100, 0, 0, 0⟩

/-- The priority of the element rows under a bias (R16, R31). -/
def Bias.elementPrio : Bias → Nat
  | .dflt => 2
  | .heatFirst => 1
  | .steamFirst => 3

/-- The generator priority a steam mode hands over with its demand; a dry mode hands over none
(R17, DEDUCED, log 7). -/
def genPriority : Mode → Bias → Option Nat
  | .steam, .dflt => some 1
  | .steam, .heatFirst => some 3
  | .steam, .steamFirst => some 1
  | .combi, .dflt => some 2
  | .combi, .heatFirst => some 3
  | .combi, .steamFirst => some 1
  | _, _ => none

/-! ### Ratings (R26) and budget (2.2) -/

/-- The ratings of the heating loads (R26). -/
def rating : CavityClass → PerLoad Nat
  | .full => ⟨2000, 1600, 1000, 2200⟩
  | .compact => ⟨1500, 1300, 800, 1800⟩

/-- The fan's rating (R26). -/
def fanRating : CavityClass → Nat
  | .full => 60
  | .compact => 45

/-- The lamp's rating (R24, R26). -/
def lampRating : Nat := 25

/-- The rating of each pump (R26). -/
def pumpRating : Nat := 30

/-- The rating of the electronics (R26). -/
def electronicsRating : Nat := 15

/-- The highest budget of a mains class (2.2). -/
def budgetMax : MainsClass → Nat
  | .a10 => 2300
  | .a13 => 2990
  | .a16 => 3680
  | .a2x16 => 7360

/-- The budget clamped to its strap's range (R27). -/
def clampBudget (m : MainsClass) (b : Nat) : Nat := clampNat 1200 (budgetMax m) b

/-- The default settings of a mains class (R176). -/
def defaultSettings (m : MainsClass) : Settings :=
  { budget := budgetMax m, shed := 7, hardness := 180, kf := 1800, edge := .rising, prescale := 1,
    agentClass := 2, resumeWindow := 10, offset := 0, lampCooking := true }

/-! ### Scale and descaling -/

/-- The due threshold (R61). -/
def dueThreshold : CavityClass → Nat
  | .full => 30000
  | .compact => 22000

/-- The lock threshold (R61). -/
def lockThreshold : CavityClass → Nat
  | .full => 45000
  | .compact => 33000

/-- The soak duration in minutes (5.1). -/
def soakDuration : CavityClass → Nat
  | .full => 20
  | .compact => 15

/-- The capacity of an agent class in mg (R91); the classes are 1 to 3. -/
def agentCapacity (c : Nat) : Nat :=
  if c ≤ 1 then 20000 else if c = 2 then 35000 else 50000

/-- The preheat allowance in seconds (R115). -/
def preheatAllowance : CavityClass → Nat
  | .full => 480
  | .compact => 360

/-! ### Channels (4.1) -/

/-- A level as a height, DRY lowest (R43). -/
def Level.rank : Level → Nat
  | .dry => 0
  | .low => 1
  | .normal => 2
  | .high => 3

/-- The prescale a setting is brought to (R75). -/
def clampPrescale (n : Nat) : Nat :=
  if n < 2 then 1 else if n < 4 then 2 else if n < 8 then 4 else 8

/-! ### Straps (R169) -/

/-- The straps three pins encode (R169). -/
def strapsOf (p : StrapPins) : Straps :=
  { cavity := if p.cavity then .compact else .full
    mains :=
      match p.mains1, p.mains2 with
      | false, false => .a10
      | false, true => .a13
      | true, false => .a16
      | true, true => .a2x16 }

/-! ### Clock times (7.1) -/

/-- The modulus of the clock numbers: 65536 days of 86400 seconds. -/
def clockModulus : Int := 5662310400

/-- A clock time as one number. -/
def ClockTime.number (t : ClockTime) : Int := t.day * 86400 + t.sec

/-- The clock time of a number, taken modulo the clock modulus. -/
def ClockTime.ofNumber (n : Int) : ClockTime :=
  let m := (n.emod clockModulus).toNat
  ⟨m / 86400, m % 86400⟩

/-- The difference of two clock times, from minus half the modulus to just under half of it. -/
def ClockTime.diff (a b : ClockTime) : Int :=
  (a.number - b.number + 2831155200).emod clockModulus - 2831155200

/-- One clock time is after another when their difference is above 0. -/
def ClockTime.after (a b : ClockTime) : Bool := 0 < a.diff b

/-- The clock time some seconds before. -/
def ClockTime.minus (t : ClockTime) (seconds : Nat) : ClockTime := .ofNumber (t.number - seconds)

/-- The clock one second on (R171). -/
def ClockTime.next (t : ClockTime) : ClockTime :=
  if t.sec + 1 ≥ 86400 then ⟨if t.day + 1 ≥ 65536 then 0 else t.day + 1, 0⟩
  else ⟨t.day, t.sec + 1⟩

/-! ### Attention kinds (R141) -/

/-- The class of an attention kind (R141). -/
inductive AttnClass
  | latched | condition | prompt
deriving DecidableEq, Repr

/-- The class of each kind (R141). -/
def AttnKind.cls : AttnKind → AttnClass
  | .cavityOvertemp | .generatorFault | .tankEmpty | .runEnded | .descaleDone => .latched
  | .addDescaler | .emptyAndRefill | .stepPrompt | .stepCheck => .prompt
  | .sensorFault | .powerRestored | .tankMissing | .probeNeeded | .steamLocked | .doorOpen
  | .clockInvalid | .descaleDue => .condition

/-- The priority of each kind, 0 the most urgent (R141). -/
def AttnKind.priority : AttnKind → Nat
  | .cavityOvertemp | .generatorFault => 0
  | .sensorFault | .powerRestored => 1
  | .tankMissing | .tankEmpty | .addDescaler | .emptyAndRefill | .stepPrompt | .stepCheck => 2
  | .probeNeeded | .steamLocked => 3
  | .runEnded => 4
  | .doorOpen | .clockInvalid => 5
  | .descaleDue | .descaleDone => 6

/-- The seventeen kinds in code order (R141). -/
def AttnKind.all : List AttnKind :=
  [.cavityOvertemp, .generatorFault, .sensorFault, .powerRestored, .tankMissing, .tankEmpty,
   .addDescaler, .emptyAndRefill, .stepPrompt, .stepCheck, .probeNeeded, .steamLocked, .runEnded,
   .doorOpen, .clockInvalid, .descaleDue, .descaleDone]

/-- The code of each kind, 1 to 17 (R141). -/
def AttnKind.code : AttnKind → Nat
  | .cavityOvertemp => 1
  | .generatorFault => 2
  | .sensorFault => 3
  | .powerRestored => 4
  | .tankMissing => 5
  | .tankEmpty => 6
  | .addDescaler => 7
  | .emptyAndRefill => 8
  | .stepPrompt => 9
  | .stepCheck => 10
  | .probeNeeded => 11
  | .steamLocked => 12
  | .runEnded => 13
  | .doorOpen => 14
  | .clockInvalid => 15
  | .descaleDue => 16
  | .descaleDone => 17

/-! ### Sensors (9.1) -/

/-- The value range of a channel, to which an in-span sample is clamped (R157). -/
def channelRange : AnalogChannel → Int × Int
  | .cavity => (-300, 4500)
  | .generator => (-300, 2500)
  | .probe1 | .probe2 | .probe3 => (-300, 1500)
  | .moisture => (0, 100)

/-- The in-span value of a sample, or none for a sample out of span: a code below 64 or above 4031
(R157). -/
def inSpan (c : AnalogChannel) : Sample → Option Int
  | .code n =>
    if n < 64 ∨ 4031 < n then none
    else some (clampInt (channelRange c).1 (channelRange c).2 (Config.sensorCurve c n))
  | .value v => some (clampInt (channelRange c).1 (channelRange c).2 v)
  | .out => none

end Sys2Proof.Machine
end

