-- ==== Sys2Proof/Machine/Flags.lean ====
section
/-! DEFINITION. What the spec reads off the state rather than keeps: whether the part is awake to
events, the door, the steam lock, the smoothed readings, the fan, the lamp, and the ATTN line. -/

namespace Sys2Proof.Machine

/-! ### The part's own condition -/

/-- The blocks act on events: no mains loss, no asserted RESET line and no flush in progress since
the last start (R175, R180, R181). -/
def live (b : Block) : Bool :=
  !b.life.mainsLost && !b.life.resetLine && decide (b.life.flush = .none)

/-- The link receives: the blocks act on events and start-up has ended (R179, R187). -/
def receiving (b : Block) : Bool := live b && b.life.settling.isNone

/-- The sampling period (R157). -/
def samplingPeriodMs (b : Block) : Nat := if b.life.power = .standby then 10000 else 250

/-- Every fixed load but the electronics is held off: in standby, from a mains loss, while the RESET
line is asserted and during a flush (R39, R180, R181). -/
def fixedLoadsHeld (b : Block) : Bool := !live b || decide (b.life.power = .standby)

/-! ### Clock -/

/-- The present clock time, absent while the clock is not valid (R171). -/
def Clock.now? (c : Clock) : Option ClockTime := if c.valid then some c.time else none

/-! ### Switches -/

/-- The door reads open unless both contacts are CLOSED (R166). -/
def doorOpen (b : Block) : Bool := b.switches.contactA.deb || b.switches.contactB.deb

/-- The two contacts disagree (R166). -/
def contactsDisagree (b : Block) : Bool := b.switches.contactA.deb != b.switches.contactB.deb

/-- The tank reads present (R167). -/
def tankPresent (b : Block) : Bool := b.switches.tank.deb

/-- The probe plug reads plugged (R164). -/
def probePlugged (b : Block) : Bool := b.switches.plug.deb

/-- The level the electrodes give, counted upward to the first dry one (R43). -/
def derivedLevel (w : Switches) : Level :=
  if !w.eLow.deb then .dry
  else if !w.eNormal.deb then .low
  else if !w.eHigh.deb then .normal
  else .high

/-- A wet electrode stands above a dry one (R43). -/
def electrodesInconsistent (w : Switches) : Bool :=
  (!w.eLow.deb && (w.eNormal.deb || w.eHigh.deb)) || (!w.eNormal.deb && w.eHigh.deb)

/-! ### Sensors -/

/-- A channel is believed (R158). -/
def Analog.ok (a : Analog) : Bool := decide (a.validity = .valid)

/-- The truncated mean of a window of four (R161). -/
def Analog.mean (a : Analog) : Int := a.window.sum.tdiv 4

/-- The cavity value without offset, while CAVITY is VALID (R161). -/
def cavityValue (b : Block) : Option Int :=
  if b.sensors.cavity.ok then some b.sensors.cavity.mean else none

/-- The moisture reading, while MOISTURE is VALID (R161). -/
def moistureReading (b : Block) : Option Int :=
  if b.sensors.moisture.ok then some b.sensors.moisture.mean else none

/-- Tm: the cavity value plus the cavity offset as it stands when Tm is read (R14, log 43). -/
def measuredTm (b : Block) : Option Int := (cavityValue b).map (· + b.settings.offset)

/-- The three probe channels. -/
def probes (x : Sensors) : List Analog := [x.probe1, x.probe2, x.probe3]

/-- The core temperature: the lowest last valid value of the VALID probe channels while the plug
reads plugged (R164). -/
def coreTemperature (b : Block) : Option Int :=
  if probePlugged b then
    (((probes b.sensors).filter Analog.ok).filterMap Analog.last).min?
  else none

/-! ### Generator -/

/-- The rating of the generator heater (R26). -/
def genRating (b : Block) : Nat := (rating b.straps.cavity).gen

/-- The lock by scale (R61). -/
def lockByScale (b : Block) : Bool :=
  decide (lockThreshold b.straps.cavity ≤ b.gen.account.scale)

/-- The steam lock (R61). -/
def steamLock (b : Block) : Bool := lockByScale b || b.descale.kept.rinseOwed

/-- The condition of DESCALE_DUE (R61). -/
def scaleDue (b : Block) : Bool :=
  decide (dueThreshold b.straps.cavity ≤ b.gen.account.scale) && !lockByScale b

/-- The GENERATOR channel is valid and its last valid sample satisfies a test. -/
def wallIs (b : Block) (test : Int → Bool) : Bool :=
  b.sensors.generator.ok && (b.sensors.generator.last.any test)

/-! ### Channels -/

/-- A transfer is in flight: ACTIVE or PAUSED (R79). -/
def ChannelRec.inFlight (c : ChannelRec) : Bool :=
  decide (c.state = .active) || decide (c.state = .paused)

/-- The record of a channel. -/
def Block.channel (b : Block) : Channel → ChannelRec
  | .fill => b.fill
  | .drain => b.drain

/-! ### Climate outputs -/

/-- The climate works: ACTIVE or SUSPENDED. -/
def ClimateState.works : ClimateState → Bool
  | .active | .suspended => true
  | .off | .fault => false

/-- The fan runs (R19). -/
def fanRunning (b : Block) : Bool :=
  decide (b.climate.state = .active) && b.climate.mode.runsFan && !fixedLoadsHeld b

/-- The speed the fan is driven at, the fan level while it runs (R19). -/
def fanSpeed (b : Block) : Nat := if fanRunning b then b.climate.fan else 0

/-- The lamp is on (R24). -/
def lampOn (b : Block) : Bool :=
  (doorOpen b || (b.settings.lampCooking && decide (b.climate.state = .active)) ||
    b.climate.lampMark) && !fixedLoadsHeld b

/-- The pump of a channel is driven: its channel is ACTIVE (R64). -/
def pumpOn (b : Block) (c : Channel) : Bool :=
  decide ((b.channel c).state = .active) && !fixedLoadsHeld b

/-- The flap motor turns: MOVING and not held in standby or with the loads held off (R20, R39). -/
def flapTurning (b : Block) : Bool :=
  (decide (b.climate.flap = .movingOpen) || decide (b.climate.flap = .movingClosed)) &&
    !fixedLoadsHeld b

/-- The fixed allowance F the fixed loads running now add up to (R32). -/
def fixedAllowance (b : Block) : Nat :=
  (if fanRunning b then fanRating b.straps.cavity else 0) +
  (if lampOn b then lampRating else 0) +
  (if pumpOn b .fill then pumpRating else 0) +
  (if pumpOn b .drain then pumpRating else 0) + electronicsRating

/-- The interlock set is empty (2.5). -/
def LockSet.isClear (l : LockSet) : Bool :=
  !(l.door || l.overtemp || l.dryFire || l.dryLevel || l.standby || l.mainsLoss)

/-! ### Conditions of standby, silence and DOOR_OPEN -/

/-- The four conditions of a STANDBY request (R182). -/
def standbyAllowed (b : Block) : Bool :=
  decide (b.climate.state = .off) && decide (b.run.state ≠ .running) &&
  decide (b.descale.kept.phase = .idle) && decide (b.gen.state ≠ .fault)

/-- The running condition of the silence timer (R193). -/
def silenceCondition (b : Block) : Bool :=
  decide (b.climate.state ≠ .off) || decide (b.run.state ≠ .idle) ||
  decide (b.descale.kept.phase ≠ .idle)

/-- The condition of DOOR_OPEN (R144). -/
def doorOpenCondition (b : Block) : Bool :=
  doorOpen b && (decide (b.climate.state ≠ .off) || decide (b.run.state ≠ .idle))

/-! ### Attention -/

/-- The entry of a kind, if the list holds one (R140). -/
def Attn.find (a : Attn) (k : AttnKind) : Option Entry := a.entries.find? (·.kind = k)

/-- The list holds an entry of the kind. -/
def Attn.has (a : Attn) (k : AttnKind) : Bool := (a.find k).isSome

/-- An entry is visible: not masked, or a prompt, or in service (R146). -/
def Attn.visible (a : Attn) (e : Entry) : Bool :=
  !a.mask.contains e.kind || decide (e.kind.cls = .prompt) || decide (e.state = .inService)

/-- ATTN is driven: a visible PENDING entry at or below the threshold, or a step report (R148); it
is released while the RESET line is asserted (R181) and from a mains loss on, and follows the list as it
stands between a release of the line and the start that waits for its flush (log 28). -/
def attnDriven (b : Block) : Bool :=
  !b.life.resetLine && !b.life.mainsLost &&
  (!b.reports.list.isEmpty ||
    b.attn.entries.any fun e =>
      b.attn.visible e && decide (e.state = .pending) &&
        decide (e.kind.priority ≤ b.attn.threshold))

/-- The condition of a condition entry still holds (R141, R144, R153). -/
def conditionHolds (b : Block) : AttnKind → Bool
  | .sensorFault =>
    match b.attn.find .sensorFault with
    | some ⟨_, _, _, .sources x⟩ =>
      x.cavity || x.generator || x.probe || x.moisture || x.door || x.level
    | _ => false
  | .powerRestored => b.run.hold.power
  | .tankMissing => !tankPresent b
  | .probeNeeded => b.run.hold.probe
  | .steamLocked => steamLock b
  | .doorOpen => doorOpenCondition b
  | .clockInvalid => !b.clock.valid
  | .descaleDue => scaleDue b
  | _ => false

/-! ### Recipe slots (6.1) -/

/-- The write of a slot that is accepted and not completed, in flight or pending (R99). -/
def slotWrite (b : Block) (n : Fin 16) : Option SlotRec :=
  (b.store.inFlight.toList ++ b.store.queue).findSome? fun
    | .slot m v => if m = n then some v else none
    | _ => none

/-- The slot state as the host sees it (R99). -/
inductive SlotView
  | empty | held | storePending | erasePending
deriving DecidableEq, Repr

/-- The slot state derived from the resident record and the pending write (R99). -/
def slotView (b : Block) (n : Fin 16) : SlotView :=
  match slotWrite b n with
  | some v => if v.recipe.isSome then .storePending else .erasePending
  | none => if (b.store.slots.get n).recipe.isSome then .held else .empty

/-- The slot has a pending write. -/
def slotBusy (b : Block) (n : Fin 16) : Bool := (slotWrite b n).isSome

/-! ### Run -/

/-- The step in progress. -/
def currentStep (b : Block) : Option Step :=
  b.run.recipe.bind fun r => if b.run.stepIndex = 0 then none else r.steps[b.run.stepIndex - 1]?

/-- The reasons that hold the climate as well (R125). -/
def HoldSet.heavy (h : HoldSet) : Bool := h.pause || h.silent || h.power

/-- The hold set holds some reason (R119). -/
def HoldSet.any (h : HoldSet) : Bool :=
  h.door || h.pause || h.steam || h.probe || h.silent || h.sensor || h.power

end Sys2Proof.Machine
end

