-- ==== Sys2Proof/Machine/Bytes.lean ====
section
/-! DEFINITION. The byte encodings of the link (R186, R190, R194): numbers high byte first, named
values by their place, sets one bit per member, the frame check, and the reply layouts. -/

namespace Sys2Proof.Machine

/-! ### Numbers -/

/-- A one-byte field. -/
def u8 (n : Nat) : Payload := [BitVec.ofNat 8 n]

/-- A two-byte field, high byte first. -/
def u16 (n : Nat) : Payload := [BitVec.ofNat 8 (n / 256), BitVec.ofNat 8 n]

/-- A three-byte field, high byte first. -/
def u24 (n : Nat) : Payload :=
  [BitVec.ofNat 8 (n / 65536), BitVec.ofNat 8 (n / 256), BitVec.ofNat 8 n]

/-- A four-byte field, high byte first. -/
def u32 (n : Nat) : Payload :=
  [BitVec.ofNat 8 (n / 16777216), BitVec.ofNat 8 (n / 65536), BitVec.ofNat 8 (n / 256),
   BitVec.ofNat 8 n]

/-- A signed two-byte field. -/
def i16 (v : Int) : Payload := u16 (v.emod 65536).toNat

/-- A flag byte. -/
def flagByte (f : Bool) : Payload := u8 f.toNat

/-- The number whose bit i is the i-th flag (R194: "a set is coded with one bit per member"). -/
def bitsOf : List Bool → Nat
  | [] => 0
  | f :: fs => f.toNat + 2 * bitsOf fs

/-- The byte of a set of at most eight members. -/
def setByte (fs : List Bool) : Payload := u8 (bitsOf fs)

/-- A temperature, absent as 0x8000 (R194). -/
def temp? : Option Int → Payload
  | some v => i16 v
  | none => u16 0x8000

/-- A one-byte value, absent as 0xFF (R194). -/
def u8? : Option Nat → Payload
  | some n => u8 n
  | none => u8 0xFF

/-- A clock time, five bytes, absent with the second of day at 0xFFFFFF (R194). -/
def clockTime? : Option ClockTime → Payload
  | some t => u16 t.day ++ u24 t.sec
  | none => u16 0 ++ u24 0xFFFFFF

/-- The number of a byte sequence, high byte first. -/
def natOf (l : List Byte) : Nat := l.foldl (fun n b => 256 * n + b.toNat) 0

/-- The signed number of two bytes. -/
def signed16 (l : List Byte) : Int :=
  let n := natOf l
  if n < 32768 then n else (n : Int) - 65536

/-! ### Named values, by their place in the list of their rule or table (R194) -/

/-- Mode code. -/
def Mode.code : Mode → Nat
  | .fanBake => 0 | .topBottom => 1 | .grill => 2 | .fanGrill => 3 | .bottomHeat => 4
  | .steam => 5 | .combi => 6

/-- The climate mode a code names (R11: REST is not one). -/
def modeOf (n : Nat) : Option Mode :=
  [Mode.fanBake, .topBottom, .grill, .fanGrill, .bottomHeat, .steam, .combi][n]?

/-- Step mode code: FAN_BAKE 0 to COMBI 6, REST 7. -/
def StepMode.code : StepMode → Nat
  | .cook m => m.code
  | .rest => 7

/-- The step mode a code names (R103). -/
def stepModeOf (n : Nat) : Option StepMode :=
  if n = 7 then some .rest else (modeOf n).map .cook

/-- Bias code. -/
def Bias.code : Bias → Nat
  | .dflt => 0 | .heatFirst => 1 | .steamFirst => 2

/-- The bias a code names. -/
def biasOf (n : Nat) : Option Bias := [Bias.dflt, .heatFirst, .steamFirst][n]?

/-- End kind code. -/
def EndKind.code : EndKind → Nat
  | .time => 0 | .core => 1 | .heatUnits => 2 | .confirm => 3

/-- The end kind a code names. -/
def endKindOf (n : Nat) : Option EndKind := [EndKind.time, .core, .heatUnits, .confirm][n]?

/-- Prompt kind code. -/
def PromptKind.code : PromptKind → Nat
  | .none => 0 | .insertFood => 1 | .turnFood => 2 | .addLiquid => 3 | .removeFood => 4
  | .checkFood => 5

/-- The prompt kind a code names. -/
def promptOf (n : Nat) : Option PromptKind :=
  [PromptKind.none, .insertFood, .turnFood, .addLiquid, .removeFood, .checkFood][n]?

/-- Start mode code. -/
def StartMode.code : StartMode → Nat
  | .now => 0 | .atTime => 1 | .readyBy => 2

/-- The start mode a code names. -/
def startModeOf (n : Nat) : Option StartMode := [StartMode.now, .atTime, .readyBy][n]?

/-- Climate state code. -/
def ClimateState.code : ClimateState → Nat
  | .off => 0 | .active => 1 | .suspended => 2 | .fault => 3

/-- Source code. -/
def Source.code : Source → Nat
  | .link => 0 | .run => 1

/-- Flap code (11.5). -/
def Flap.code : Flap → Nat
  | .isOpen => 0 | .isClosed => 1 | .movingOpen => 2 | .movingClosed => 3

/-- Cavity class code (R191). -/
def CavityClass.code : CavityClass → Nat
  | .full => 0 | .compact => 1

/-- Mains class code (R191). -/
def MainsClass.code : MainsClass → Nat
  | .a10 => 0 | .a13 => 1 | .a16 => 2 | .a2x16 => 3

/-- Generator state code. -/
def GenState.code : GenState → Nat
  | .idle => 0 | .filling => 1 | .heating => 2 | .ready => 3 | .cooling => 4 | .draining => 5
  | .waitWater => 6 | .descale => 7 | .fault => 8

/-- Level state code. -/
def Level.code : Level → Nat
  | .dry => 0 | .low => 1 | .normal => 2 | .high => 3

/-- Target level code: LOW 0, NORMAL 1, HIGH 2 (the list of 4.1; DEDUCED, log 16). -/
def targetCode : Level → Nat
  | .dry => 0xFF | .low => 0 | .normal => 1 | .high => 2

/-- Channel state code. -/
def ChannelState.code : ChannelState → Nat
  | .idle => 0 | .active => 1 | .paused => 2 | .ended => 3

/-- Owner code. -/
def Owner.code : Owner → Nat
  | .none => 0 | .generator => 1 | .descale => 2

/-- Transfer mode code. -/
def TransferMode.code : TransferMode → Nat
  | .unsync => 0 | .destSync => 1 | .sourceSync => 2

/-- Transfer end reason code. -/
def EndReason.code : EndReason → Nat
  | .level => 0 | .count => 1 | .noFlow => 2 | .sourceLost => 3 | .stopped => 4 | .interlock => 5

/-- Descale phase code. -/
def DescalePhase.code : DescalePhase → Nat
  | .idle => 0 | .drainOld => 1 | .addAgent => 2 | .agentFill => 3 | .soak => 4
  | .agentDrain => 5 | .refillClean => 6 | .rinseFill => 7 | .rinseHold => 8 | .rinseDrain => 9

/-- Water wait code (11.5). -/
def WaterWait.code : WaterWait → Nat
  | .tankEmpty => 0 | .tankMissing => 1

/-- Tank cycle code. -/
def TankCycle.code : TankCycle → Nat
  | .none => 0 | .removed => 1 | .cycled => 2

/-- Run state code. -/
def RunState.code : RunState → Nat
  | .idle => 0 | .pending => 1 | .running => 2

/-- Step phase code. -/
def StepPhase.code : StepPhase → Nat
  | .preheat => 0 | .prompt => 1 | .active => 2

/-- Door cycle code. -/
def DoorCycle.code : DoorCycle → Nat
  | .none => 0 | .opened => 1 | .cycled => 2

/-- Step end reason code, TIME 0 to POWER_LOSS 10 (11.5). -/
def StepEnd.code : StepEnd → Nat
  | .time => 0 | .coreReached => 1 | .huReached => 2 | .limit => 3 | .confirmed => 4
  | .skipped => 5 | .aborted => 6 | .fault => 7 | .silent => 8 | .sensor => 9 | .powerLoss => 10

/-- Run end reason code, in the order of R132. -/
def RunEnd.code : RunEnd → Nat
  | .finished => 0 | .aborted => 1 | .fault => 2 | .silent => 3 | .sensor => 4 | .powerLoss => 5

/-- Entry state code. -/
def EntryState.code : EntryState → Nat
  | .pending => 0 | .inService => 1 | .acknowledged => 2

/-- Validity code. -/
def Validity.code : Validity → Nat
  | .starting => 0 | .valid => 1 | .invalid => 2

/-- Power state code. -/
def PowerState.code : PowerState → Nat
  | .awake => 0 | .standbyRequested => 1 | .standby => 2

/-- Wake cause code. -/
def WakeCause.code : WakeCause → Nat
  | .link => 0 | .door => 1 | .tank => 2 | .probe => 3 | .startDue => 4

/-- Start cause code. -/
def StartCause.code : StartCause → Nat
  | .powerOn => 0 | .mainsReturn => 1 | .restartRequest => 2 | .resetLine => 3

/-- Flow edge code. -/
def edgeCode : FlowEdge → Nat
  | .rising => 0 | .falling => 1

/-- The flow edge a code names (R75). -/
def edgeOf (n : Nat) : Option FlowEdge := [FlowEdge.rising, .falling][n]?

/-- The flag a code names: clear 0, set 1 (R176; the table of 10.4 lists them the other way, log 44). -/
def flagOf (n : Nat) : Option Bool := [false, true][n]?

/-- Slot state code (R109). -/
def SlotView.code : SlotView → Nat
  | .empty => 0 | .held => 1 | .storePending => 2 | .erasePending => 3

/-! ### Status codes (R190) -/

/-- The status codes (R190). -/
inductive Status
  | ok | busy | refusedState | range | invalid | unknownKind | badLength | runOwns
  | descaleActive | steamLocked | clockInvalid | notReady | noDuration | emptySlot | none
deriving DecidableEq, Repr

/-- The code of a status (R190). -/
def Status.code : Status → Nat
  | .ok => 0x00 | .busy => 0x01 | .refusedState => 0x02 | .range => 0x03 | .invalid => 0x04
  | .unknownKind => 0x05 | .badLength => 0x06 | .runOwns => 0x07 | .descaleActive => 0x08
  | .steamLocked => 0x09 | .clockInvalid => 0x0A | .notReady => 0x0B | .noDuration => 0x0C
  | .emptySlot => 0x0D | .none => 0x0E

/-- The status byte: the code in bits 0 to 6 and the dropped flag in bit 7 (R190). -/
def statusByte (st : Status) (dropped : Bool) : Byte :=
  BitVec.ofNat 8 (st.code + if dropped then 128 else 0)

/-! ### The frame and its check (R186) -/

/-- One bit shifted out of the CRC register (R186). -/
def crcShift (c : Crc) : Crc :=
  if c.msb then (c <<< 1) ^^^ 0x1021#16 else c <<< 1

/-- One byte combined into the high end of the CRC register (R186). -/
def crcByte (c : Crc) (x : Byte) : Crc :=
  let c := c ^^^ (x.zeroExtend 16 <<< 8)
  crcShift (crcShift (crcShift (crcShift (crcShift (crcShift (crcShift (crcShift c)))))))

/-- The CRC over a byte sequence, preset to 0xFFFF (R186). -/
def crcOf (l : List Byte) : Crc := l.foldl crcByte 0xFFFF#16

/-- The two CHECK bytes over LEN, KIND and payload, high byte first (R186). -/
def checkBytes (l : List Byte) : List Byte := u16 (crcOf l).toNat

/-- The bytes of a frame on the line: SYNC, LEN, KIND, payload, CHECK (R186). -/
def frameBytes (kind : Byte) (p : Payload) : List Byte :=
  let covered := u8 (p.length + 1) ++ [kind] ++ p
  [0x5A#8] ++ covered ++ checkBytes covered

/-- The reply frame on the line (R186). -/
def Reply.bytes (r : Reply) : List Byte := frameBytes r.kind r.body

/-! ### Records of the replies -/

/-- The three-byte set of retained records: bit i for the i-th record, high byte first (11.5, DEDUCED,
log 17). -/
def recordSet (l : List RecordName) : Payload :=
  u24 (bitsOf (allRecords.map fun r => l.contains r))

/-- The position of a record in the STATUS sets. -/
def recordPosition : RecordName → Nat
  | .settings => 0 | .scale => 1 | .descale => 2 | .checkpoint => 3 | .startNote => 4
  | .slot n => 5 + n.val

/-- The three mask bytes: the flag for code n at place n of the 24 places from the first byte's high
end (8.3). -/
def maskBytes (m : List AttnKind) : Payload :=
  u24 ((AttnKind.all.filter m.contains).map fun k => 2 ^ (23 - k.code)).sum

/-- The kinds whose flags are set in three mask bytes; unused places are disregarded (R147). -/
def maskOf (l : List Byte) : List AttnKind :=
  AttnKind.all.filter fun k => (natOf l).testBit (23 - k.code)

/-- The flag set of the SENSOR_FAULT sources, CAVITY bit 0 to LEVEL bit 5 (R194). -/
def SourceSet.flags (x : SourceSet) : List Bool :=
  [x.cavity, x.generator, x.probe, x.moisture, x.door, x.level]

/-- The three detail bytes (R194). -/
def Detail.bytes : Detail → Payload
  | .none => [0xFF#8, 0xFF#8, 0xFF#8]
  | .sources x => setByte x.flags ++ [0xFF#8, 0xFF#8]
  | .prompt k i => u8 k.code ++ u8 i ++ [0xFF#8]
  | .step i => u8 i ++ [0xFF#8, 0xFF#8]
  | .runEnd r i => u8 r.code ++ u8 i ++ [0xFF#8]

/-- The position of a kind in the chain, 1 for the earliest, 0 outside it (R149, R194). -/
def Attn.position (a : Attn) (k : AttnKind) : Nat :=
  match a.chain.findIdx? (· = k) with
  | some i => i + 1
  | none => 0

/-- The twelve-byte attention record (R194). -/
def Attn.record (a : Attn) (e : Entry) : Payload :=
  u8 e.kind.code ++ u8 e.kind.priority ++ u8 e.state.code ++ u8 (a.position e.kind) ++
  clockTime? e.time ++ e.detail.bytes

/-- The 27-byte step report record (11.5). -/
def Report.bytes (r : Report) : Payload :=
  u8 r.runId ++ u8 r.stepIndex ++ u8 r.reason.code ++ u16 r.active ++ u16 r.held ++
  u8 r.doorCount ++ clockTime? r.firstDoor ++ clockTime? r.lastDoor ++ temp? r.core ++
  u32 r.heat ++ setByte [r.preheatLong, r.promptSkipped, r.powerLimited, r.steamShort] ++
  u16 r.steamShortSecs

/-- The sixteen bytes of a step (11.5); an absent optional field is sent as 0, and so are the unused bits
of the flags (log 39). -/
def Step.bytes (x : Step) : Payload :=
  u8 (x.mode.code + 16 * x.endKind.code) ++ i16 x.setpoint ++ u8 x.moisture ++ u8 x.fan ++
  u8 x.bias.code ++ u16 x.limit ++ i16 (x.coreTarget.getD 0) ++ u16 (x.huTarget.getD 0) ++
  i16 (x.huBase.getD 0) ++ u8 x.prompt.code ++
  setByte [x.preheat, x.doorCycle, x.coreTarget.isSome, x.huTarget.isSome, x.huBase.isSome]

/-- A name in its 16-byte field, zero after its end (R100). -/
def nameField (n : List Byte) : Payload := (n ++ List.replicate 16 0#8).take 16

/-- The recipe payload (11.5); the unused bits of the header's flags are sent as 0 (log 39). -/
def recipeBytes (slot : Nat) (r : Recipe) : Payload :=
  u8 slot ++ nameField r.name ++ u8 r.steps.length ++ u8 r.keepLamp.toNat ++
  r.steps.flatMap Step.bytes

/-- The fourteen bytes of the settings, in the order of R176. -/
def settingsBytes (s : Settings) : Payload :=
  u16 s.budget ++ u8 s.shed ++ u16 s.hardness ++ u16 s.kf ++ u8 (edgeCode s.edge) ++
  u8 s.prescale ++ u8 s.agentClass ++ u8 s.resumeWindow ++ i16 s.offset ++ flagByte s.lampCooking

end Sys2Proof.Machine
end

