-- ==== Sys2Proof/Machine/Operands.lean ====
section
/-! DEFINITION. The operand forms: how the fields of each request are read from its payload (R189,
R194), with the structural checks their rules name. -/

namespace Sys2Proof.Machine

/-- The byte at an offset as a number. -/
def byteAt (p : Payload) (i : Nat) : Nat := (p.getD i 0#8).toNat

/-- The bytes at an offset. -/
def bytesAt (p : Payload) (i n : Nat) : List Byte := (p.drop i).take n

/-- The unsigned two-byte field at an offset. -/
def wordAt (p : Payload) (i : Nat) : Nat := natOf (bytesAt p i 2)

/-- The signed two-byte field at an offset. -/
def signedAt (p : Payload) (i : Nat) : Int := signed16 (bytesAt p i 2)

/-- The clock time at an offset: the day in two bytes, the second of day in three (R194). -/
def clockAt (p : Payload) (i : Nat) : ClockTime := ⟨wordAt p i, natOf (bytesAt p (i + 2) 3)⟩

/-- The five fields of a climate setting (R10, R11). -/
structure ClimateFields where
  mode : Mode
  ts : Int
  ms : Int
  fan : Int
  bias : Bias
deriving DecidableEq, Repr

/-- The fields of a CLIMATE SET of the right length; none where the mode or the bias code names
nothing (R11 check 2). A Ts of 0x8000 is the number its bytes spell (log 41). -/
def climateFields (p : Payload) : Option ClimateFields := do
  let m ← modeOf (byteAt p 0)
  let b ← biasOf (byteAt p 5)
  pure { mode := m, ts := signedAt p 1, ms := byteAt p 3, fan := byteAt p 4, bias := b }

/-- The settings a SETTINGS WRITE of the right length gives, clamped (R176); none where the edge or
the lamp code names nothing. -/
def settingsFields (m : MainsClass) (p : Payload) : Option Settings := do
  let e ← edgeOf (byteAt p 7)
  let l ← flagOf (byteAt p 13)
  pure
    { budget := clampBudget m (wordAt p 0)
      shed := min 7 (byteAt p 2)
      hardness := min 500 (wordAt p 3)
      kf := clampNat 500 5000 (wordAt p 5)
      edge := e
      prescale := clampPrescale (byteAt p 8)
      agentClass := clampNat 1 3 (byteAt p 9)
      resumeWindow := min 30 (byteAt p 10)
      offset := clampInt (-50) 50 (signedAt p 11)
      lampCooking := l }

/-! ### Recipes (R100 to R103) -/

/-- The fields a refusal of RECIPE STORE can name, by their codes (R189). -/
inductive StoreField
  | stepCount | name | mode | endKind | prompt | bias | preheat | timeLimit | coreTarget
  | huTarget | huBase
deriving DecidableEq, Repr

/-- The field code (R189). -/
def StoreField.code : StoreField → Nat
  | .stepCount => 0 | .name => 1 | .mode => 2 | .endKind => 3 | .prompt => 4 | .bias => 5
  | .preheat => 6 | .timeLimit => 7 | .coreTarget => 8 | .huTarget => 9 | .huBase => 10

/-- A printable character, space to tilde (R100). -/
def printable (c : Byte) : Bool := 0x20 ≤ c.toNat && c.toNat ≤ 0x7E

/-- The name in a 16-byte field: up to the first zero (R100). -/
def nameOf (l : List Byte) : List Byte := l.takeWhile (· ≠ 0#8)

/-- Bit i of the byte at an offset. -/
def bitAt (p : Payload) (i bit : Nat) : Bool := (byteAt p i).testBit bit

/-- One step read from its sixteen bytes by the checks of R103, in their order; an optional field
the end kind does not use is stored absent (R101). A temperature whose presence bit is set is present
whatever its bytes, 0x8000 too (log 38), and so is the setpoint (log 41); bits 5 to 7 of the flags are disregarded (log 39). -/
def readStep (q : Payload) : Except StoreField Step :=
  match stepModeOf (byteAt q 0 % 16), endKindOf (byteAt q 0 / 16), promptOf (byteAt q 14),
      biasOf (byteAt q 5) with
  | none, _, _, _ => .error .mode
  | some _, none, _, _ => .error .endKind
  | some _, some _, none, _ => .error .prompt
  | some _, some _, some _, none => .error .bias
  | some m, some e, some k, some b =>
    if m = .rest ∧ bitAt q 15 0 = true then .error .preheat
    else if e ≠ .confirm ∧ wordAt q 6 = 0 then .error .timeLimit
    else if e = .core ∧ bitAt q 15 2 = false then .error .coreTarget
    else if e = .heatUnits ∧ bitAt q 15 3 = false then .error .huTarget
    else if e = .heatUnits ∧ bitAt q 15 4 = false then .error .huBase
    else
      .ok
        { mode := m, setpoint := signedAt q 1, moisture := byteAt q 3, fan := byteAt q 4
          bias := b, endKind := e, limit := wordAt q 6
          coreTarget := if e = .core then some (signedAt q 8) else none
          huTarget := if e = .heatUnits then some (wordAt q 10) else none
          huBase := if e = .heatUnits then some (signedAt q 12) else none
          prompt := k, preheat := bitAt q 15 0, doorCycle := bitAt q 15 1 }

/-- The steps of a recipe payload from step `i` on, `n` of them; the first failure names its step
and field (R103). -/
def readSteps (p : Payload) : Nat → Nat → Except (Nat × StoreField) (List Step)
  | _, 0 => .ok []
  | i, n + 1 =>
    match readStep (bytesAt p (19 + 16 * (i - 1)) 16) with
    | .error f => .error (i, f)
    | .ok x =>
      match readSteps p (i + 1) n with
      | .error e => .error e
      | .ok xs => .ok (x :: xs)

/-- The outcome of checks 4 to 7 of R102. -/
inductive StoreCheck
  | badLength
  | invalid (step : Nat) (field : StoreField)
  | sound (r : Recipe)
deriving DecidableEq, Repr

/-- Checks 4 to 7 of R102 on a payload of at least 19 bytes; bits 1 to 7 of the header's flags are
disregarded (log 39). -/
def readRecipe (p : Payload) : StoreCheck :=
  let count := byteAt p 17
  let name := nameOf (bytesAt p 1 16)
  if count < 1 ∨ 12 < count then .invalid 0 .stepCount
  else if p.length ≠ 19 + 16 * count then .badLength
  else if name.isEmpty || !name.all printable then .invalid 0 .name
  else
    match readSteps p 1 count with
    | .error (i, f) => .invalid i f
    | .ok xs => .sound { name := name, steps := xs, keepLamp := bitAt p 18 0 }

/-! ### RUN START (R114) -/

/-- The fields of a RUN START that passed its length and start-mode checks. -/
structure StartFields where
  slot : Nat
  mode : StartMode
  time : Option ClockTime
deriving DecidableEq, Repr

/-- Checks 1 and 2 of R114: the length the start mode asks for, then the start mode itself. -/
def startFields (p : Payload) : Except Status StartFields :=
  match startModeOf (byteAt p 1) with
  | some .now => if p.length = 2 then .ok ⟨byteAt p 0, .now, none⟩ else .error .badLength
  | some m => if p.length = 7 then .ok ⟨byteAt p 0, m, some (clockAt p 2)⟩ else .error .badLength
  | none => if p.length = 2 ∨ p.length = 7 then .error .invalid else .error .badLength

end Sys2Proof.Machine
end

