-- ==== Sys2Proof/Machine/Ops.lean ====
section
/-! DEFINITION. The shared operations over the state that several blocks use: raising and clearing
attention entries, the write queue, interlock sets, and request rows. -/

namespace Sys2Proof.Machine

/-! ### The blocks replaced, one at a time -/

/-- The clock replaced. -/
def setClock (c : Clock) (b : Block) : Block := { b with clock := c }

/-- The settings replaced. -/
def setSettings (v : Settings) (b : Block) : Block := { b with settings := v }

/-- The life record replaced. -/
def setLife (l : Life) (b : Block) : Block := { b with life := l }

/-- The climate record replaced. -/
def setClimate (c : Climate) (b : Block) : Block := { b with climate := c }

/-- The power sharing block replaced. -/
def setShare (p : Share) (b : Block) : Block := { b with share := p }

/-- The generator record replaced. -/
def setGen (g : Generator) (b : Block) : Block := { b with gen := g }

/-- The descaling block replaced. -/
def setDescale (d : Descale) (b : Block) : Block := { b with descale := d }

/-- The run context replaced. -/
def setRun (r : Run) (b : Block) : Block := { b with run := r }

/-- The run counter replaced. -/
def setRunCounter (n : Nat) (b : Block) : Block := { b with runCounter := n }

/-- The report queue replaced. -/
def setReports (q : Reports) (b : Block) : Block := { b with reports := q }

/-- The attention list replaced. -/
def setAttn (a : Attn) (b : Block) : Block := { b with attn := a }

/-- The analog channels replaced. -/
def setSensors (x : Sensors) (b : Block) : Block := { b with sensors := x }

/-- The switch inputs replaced. -/
def setSwitches (w : Switches) (b : Block) : Block := { b with switches := w }

/-- The retained store replaced. -/
def setStore (r : Store) (b : Block) : Block := { b with store := r }

/-- The message link replaced. -/
def setLink (l : Link) (b : Block) : Block := { b with link := l }

/-- The silence timer replaced. -/
def setSilence (q : Silence) (b : Block) : Block := { b with silence := q }

/-! ### Attention list (R140 to R143) -/

/-- One source of SENSOR_FAULT set or cleared. -/
def SourceSet.put (x : SourceSet) (f : FaultSource) (v : Bool) : SourceSet :=
  match f with
  | .cavity => { x with cavity := v }
  | .generator => { x with generator := v }
  | .probe => { x with probe := v }
  | .moisture => { x with moisture := v }
  | .door => { x with door := v }
  | .level => { x with level := v }

/-- The empty source set. -/
def SourceSet.empty : SourceSet := ⟨false, false, false, false, false, false⟩

/-- A source stands in the set. -/
def SourceSet.nonempty (x : SourceSet) : Bool :=
  x.cavity || x.generator || x.probe || x.moisture || x.door || x.level

/-- The union of two source sets. -/
def SourceSet.union (x y : SourceSet) : SourceSet :=
  ⟨x.cavity || y.cavity, x.generator || y.generator, x.probe || y.probe,
   x.moisture || y.moisture, x.door || y.door, x.level || y.level⟩

/-- The detail of a present entry after a raise: SENSOR_FAULT adds its source, every other kind's
detail is replaced (R142). -/
def Detail.raised : Detail → Detail → Detail
  | .sources x, .sources y => .sources (x.union y)
  | _, new => new

/-- An entry placed before the first entry of a higher code (R155: the raise order of a start-up). -/
def insertByCode (e : Entry) : List Entry → List Entry
  | [] => [e]
  | x :: xs => if e.kind.code < x.kind.code then e :: x :: xs else x :: insertByCode e xs

/-- A raise on the list (R142): a present entry keeps its state, time and place; a new one is PENDING,
last in raise order (log 34), or in code order during start-up (R155). -/
def Attn.raise (a : Attn) (k : AttnKind) (d : Detail) (t : Option ClockTime) (startUp : Bool) :
    Attn :=
  if a.has k then
    { a with
      entries := a.entries.map fun e =>
        if e.kind = k then { e with detail := e.detail.raised d } else e }
  else if startUp then { a with entries := insertByCode ⟨k, .pending, t, d⟩ a.entries }
  else { a with entries := a.entries ++ [⟨k, .pending, t, d⟩] }

/-- The entry of a kind leaves the list, and the chain if it was in service (R143). -/
def Attn.remove (a : Attn) (k : AttnKind) : Attn :=
  { a with entries := a.entries.filter (·.kind ≠ k), chain := a.chain.filter (· ≠ k) }

/-- One source of SENSOR_FAULT cleared; the entry goes when its set becomes empty (R143). -/
def Attn.clearSource (a : Attn) (f : FaultSource) : Attn :=
  match a.find .sensorFault with
  | some ⟨_, _, _, .sources x⟩ =>
    if (x.put f false).nonempty then
      { a with
        entries := a.entries.map fun e =>
          if e.kind = .sensorFault then { e with detail := .sources (x.put f false) } else e }
    else a.remove .sensorFault
  | _ => a

/-- The raise time of an entry created now: the clock time, or in start-up the clock time of the
start (R140, R155). -/
def raiseTime (b : Block) : Option ClockTime :=
  if b.life.settling.isSome then b.life.startClock else b.clock.now?

/-- An owner raises a kind (R142). -/
def raiseAttn (k : AttnKind) (d : Detail) (b : Block) : Block :=
  setAttn (b.attn.raise k d (raiseTime b) b.life.settling.isSome) b

/-- An owner clears a condition entry or withdraws a prompt (R143). -/
def clearAttn (k : AttnKind) (b : Block) : Block := setAttn (b.attn.remove k) b

/-- SENSOR_FAULT raised for one source (R163). -/
def raiseSource (f : FaultSource) (b : Block) : Block :=
  raiseAttn .sensorFault (.sources (SourceSet.empty.put f true)) b

/-- SENSOR_FAULT cleared for one source (R163). -/
def clearSource (f : FaultSource) (b : Block) : Block :=
  setAttn (b.attn.clearSource f) b

/-- A condition entry follows its condition: raised while it holds, cleared when it does not. -/
def followCondition (k : AttnKind) (holds : Bool) (b : Block) : Block :=
  if holds then raiseAttn k .none b else clearAttn k b

/-! ### Write queue (R174) -/

/-- The record a write is of. -/
def Write.record : Write → RecordName
  | .settings _ => .settings
  | .scale _ => .scale
  | .descale _ => .descale
  | .checkpoint _ => .checkpoint
  | .slot n _ => .slot n
  | .startNote _ => .startNote

/-- The queue with a write added: in the place of a pending write of its record, else last (R174). -/
def enqueue (w : Write) : List Write → List Write
  | [] => [w]
  | x :: xs => if x.record = w.record then w :: xs else x :: enqueue w xs

/-- An owner queues a write of a record (R174); the store takes it into flight when it can. -/
def queueWrite (w : Write) (b : Block) : Block :=
  setStore { b.store with queue := enqueue w b.store.queue } b

/-- A SETTINGS write of the settings as they stand. -/
def queueSettings (b : Block) : Block := queueWrite (.settings b.settings) b

/-- A SCALE write of the account as it stands. -/
def queueScale (b : Block) : Block := queueWrite (.scale b.gen.account) b

/-- The service order of the queue: DESCALE, SCALE, CHECKPOINT, SETTINGS, then slots (R174). -/
def serviceClass : RecordName → Nat
  | .descale => 0
  | .scale => 1
  | .checkpoint => 2
  | .settings => 3
  | .slot _ => 4
  | .startNote => 5

/-- The pending write served next among those a flush may still take: the first of the lowest
service class (R174). -/
def nextWrite (allowed : RecordName → Bool) (q : List Write) : Option Write :=
  (List.range 5).findSome? fun c =>
    q.find? fun w => decide (serviceClass w.record = c) && allowed w.record

/-- The records a flush still completes: all in normal service and at a RESTART (R174, R180), DESCALE,
SCALE and CHECKPOINT at a mains loss (R175), DESCALE and SCALE at the RESET line (R181). -/
def flushServes : Flush → RecordName → Bool
  | .none, _ | .restart, _ => true
  | .mains, r => decide (serviceClass r ≤ 2)
  | .resetLine, r => decide (serviceClass r ≤ 1)

/-- A flush that ends with the START NOTE (R175, R181). -/
def Flush.writesNote : Flush → Bool
  | .mains | .resetLine => true
  | .none | .restart => false

/-- The records whose pending writes a flush leaves, in the order of the STATUS sets (R175). -/
def lostWrites (q : List Write) : List RecordName :=
  allRecords.filter fun r => q.any fun w => w.record = r

/-- The store takes what is due into flight when nothing is: the next pending write, or, once a flush
has no more to complete, the START NOTE; nothing during start-up (R174, R175, R178, R181). -/
def serveStore (b : Block) : Block :=
  if b.store.inFlight.isSome then b
  else if b.life.settling.isSome ∧ b.life.flush = .none then b
  else
    match nextWrite (flushServes b.life.flush) b.store.queue with
    | some w =>
      setStore
        { b.store with
          inFlight := some w, queue := b.store.queue.filter (·.record ≠ w.record) } b
    | none =>
      if b.life.flush.writesNote ∧ b.life.note = .waiting then
        setStore
          { b.store with
            inFlight := some (.startNote ⟨lostWrites b.store.queue, b.life.noteMark⟩) }
          (setLife { b.life with note := .inFlight } b)
      else b

/-! ### Interlocks (R36 to R40) -/

/-- One interlock set or cleared in a set. -/
def LockSet.put (l : LockSet) (i : Interlock) (v : Bool) : LockSet :=
  match i with
  | .door => { l with door := v }
  | .overtemp => { l with overtemp := v }
  | .dryFire => { l with dryFire := v }
  | .dryLevel => { l with dryLevel := v }
  | .standby => { l with standby := v }
  | .mainsLoss => { l with mainsLoss := v }

/-- The loads an interlock covers (2.5). -/
def Interlock.covers : Interlock → Load → Bool
  | .door, _ | .standby, _ | .mainsLoss, _ => true
  | .overtemp, .gen => false
  | .overtemp, _ => true
  | .dryFire, .gen | .dryLevel, .gen => true
  | .dryFire, _ | .dryLevel, _ => false

/-- An interlock is added to a load's set; the first one switches the load off and zeroes its
accumulator (R40). -/
def LoadOut.lock (i : Interlock) (o : LoadOut) : LoadOut :=
  if o.locks.isClear then { o with locks := o.locks.put i true, acc := 0, firing := false }
  else { o with locks := o.locks.put i true }

/-- An interlock leaves a load's set; firing resumes at the next zero crossing (R40). -/
def LoadOut.unlock (i : Interlock) (o : LoadOut) : LoadOut :=
  { o with locks := o.locks.put i false }

/-- An interlock set on every load it covers (2.5). -/
def setInterlock (i : Interlock) (b : Block) : Block :=
  setShare { b.share with
      loads := b.share.loads.mapWith fun l o => if i.covers l then o.lock i else o } b

/-- An interlock cleared on every load it covers (2.5). -/
def clearInterlock (i : Interlock) (b : Block) : Block :=
  setShare { b.share with
      loads := b.share.loads.mapWith fun l o => if i.covers l then o.unlock i else o } b

/-- An interlock follows its condition. -/
def followInterlock (i : Interlock) (v : Bool) (b : Block) : Block :=
  if v then setInterlock i b else clearInterlock i b

/-! ### Request rows (R30) -/

/-- The GEN row written (R44). -/
def writeGenRow (w p : Nat) (b : Block) : Block :=
  setShare { b.share with requests := { b.share.requests with gen := ⟨w, p⟩ } } b

/-- The three element rows written together (R30). -/
def writeElementRows (ring top bottom p : Nat) (b : Block) : Block :=
  setShare { b.share with
      requests := { b.share.requests with
        ring := ⟨ring, p⟩, top := ⟨top, p⟩, bottom := ⟨bottom, p⟩ } } b

end Sys2Proof.Machine
end

