-- ==== Sys2Proof/Machine/Water.lean ====
section
/-! DEFINITION. The water transfer channels (chapter 4): claims, releases, strokes, pauses and ends.
What the owners do with an end report is theirs (Generator, Descale). -/

namespace Sys2Proof.Machine

/-- The other channel. -/
def otherChannel : Channel → Channel
  | .fill => .drain
  | .drain => .fill

/-- The record of a channel replaced. -/
def setChannel (c : Channel) (r : ChannelRec) (b : Block) : Block :=
  match c with
  | .fill => { b with fill := r }
  | .drain => { b with drain := r }

/-- Why a claim is refused (R66). -/
inductive ClaimRefusal
  | notIdle | otherRunning | badClaim
deriving DecidableEq, Repr

/-- The description of a transfer (4.2). -/
structure Claim where
  channel : Channel
  owner : Owner
  mode : TransferMode
  target : Option Level
  limit : Nat
deriving DecidableEq, Repr

/-- The parameters describe a transfer the channel can make (R66 check 3). -/
def Claim.sound (k : Claim) : Bool :=
  decide (k.owner ≠ .none) &&
  !(decide (k.mode = .sourceSync) && decide (k.channel = .fill)) &&
  !(decide (k.mode = .destSync) && decide (k.channel = .drain)) &&
  !(decide (k.mode = .destSync) && k.target.isNone) &&
  decide (1 ≤ k.limit) && decide (k.limit ≤ 1000)

/-- The checks of a claim, in their order (R66). -/
def claimCheck (k : Claim) (b : Block) : Option ClaimRefusal :=
  if (b.channel k.channel).state ≠ .idle then some .notIdle
  else if (b.channel (otherChannel k.channel)).inFlight then some .otherRunning
  else if !k.sound then some .badClaim
  else none

/-- The level bounds the transfer at its claim: a DEST_SYNC fill at or above its target, an UNSYNC
fill at HIGH (R67). -/
def boundedAtClaim (k : Claim) (l : Level) : Bool :=
  decide (k.channel = .fill) &&
  match k.mode, k.target with
  | .destSync, some t => decide (t.rank ≤ l.rank)
  | .unsync, _ => decide (l = .high)
  | _, _ => false

/-- The record a taken claim writes (R67): ended at once with LEVEL, PAUSED for the tank, or
ACTIVE; a SOURCE_SYNC drain at DRY has begun its run-on. -/
def claimedRecord (k : Claim) (b : Block) : ChannelRec :=
  let l := b.gen.level
  let bounded := boundedAtClaim k l
  { state := if bounded then .ended else if tankPresent b then .active else .paused
    owner := k.owner
    mode := k.mode
    target := if k.mode = .destSync then k.target else none
    limit := k.limit
    strokes := 0
    runOn := if k.mode = .sourceSync ∧ l = .dry then some 0 else none
    flow := 0
    noFlow := 0
    divider := 0
    pauseMs := 0
    endReason := if bounded then some .level else none
    levelAtEnd := if bounded then some l else none }

/-- A claim: the block with the transfer started, or none where it is refused (R66, R67). -/
def claim (k : Claim) (b : Block) : Option Block :=
  match claimCheck k b with
  | some _ => none
  | none => some (setChannel k.channel (claimedRecord k b) b)

/-- A release by the owner: taken in ENDED alone, the record keeps the account of the transfer (R68). -/
def release (c : Channel) (o : Owner) (b : Block) : Block :=
  let r := b.channel c
  if r.state = .ended ∧ r.owner = o then setChannel c { r with state := .idle, owner := .none } b
  else b

/-- A transfer in flight ends: the record enters ENDED with its reason and the level at the end (R80). -/
def ChannelRec.finish (reason : EndReason) (l : Level) (r : ChannelRec) : ChannelRec :=
  { r with state := .ended, endReason := some reason, levelAtEnd := some l }

/-- The transfer of a channel, if in flight, ends with a reason (R78, R79, R80). -/
def endTransfer (c : Channel) (reason : EndReason) (b : Block) : Block :=
  let r := b.channel c
  if r.inFlight then setChannel c (r.finish reason b.gen.level) b else b

/-! ### Strokes (R69) -/

/-- What a pacing expiry in ACTIVE finds, in the order of R69: an end, or a stroke. -/
def pacingEnd (c : Channel) (r : ChannelRec) : Option EndReason :=
  if c = .fill ∧ r.noFlow = 20 then some .noFlow
  else if r.mode = .sourceSync ∧ r.runOn = some 25 then some .level
  else if r.strokes = r.limit then some .count
  else none

/-- A stroke (R69): one more stroke, one more on the no-flow run of FILL and on a begun run-on. -/
def ChannelRec.stroke (c : Channel) (r : ChannelRec) : ChannelRec :=
  { r with
    strokes := r.strokes + 1
    noFlow := if c = .fill then r.noFlow + 1 else r.noFlow
    runOn := r.runOn.map (· + 1) }

/-! ### Level (R70 to R72) -/

/-- The level event ends the transfer: the target of a DEST_SYNC fill is reached, or an UNSYNC fill
reaches HIGH (R70, R72). -/
def levelEnds (c : Channel) (r : ChannelRec) (l : Level) : Bool :=
  r.inFlight && decide (c = .fill) &&
  match r.mode, r.target with
  | .destSync, some t => decide (t.rank ≤ l.rank)
  | .unsync, _ => decide (l = .high)
  | _, _ => false

/-- A SOURCE_SYNC drain in flight whose level becomes DRY begins its run-on; once begun, levels do
not affect it (R71). -/
def beginRunOn (l : Level) (r : ChannelRec) : ChannelRec :=
  if r.inFlight ∧ r.mode = .sourceSync ∧ l = .dry ∧ r.runOn = none then { r with runOn := some 0 }
  else r

/-! ### Tank (R76, R77) -/

/-- A tank removal pauses an ACTIVE transfer (R76). -/
def ChannelRec.pause (r : ChannelRec) : ChannelRec :=
  if r.state = .active then { r with state := .paused, pauseMs := 0 } else r

/-- A tank insertion resumes a PAUSED transfer with a fresh no-flow run (R77). -/
def ChannelRec.resume (r : ChannelRec) : ChannelRec :=
  if r.state = .paused then { r with state := .active, pauseMs := 0, noFlow := 0 } else r

/-! ### Flow (R73) -/

/-- A selected edge in ACTIVE: the divider advances, and at the prescale a count event occurs (R73). -/
def ChannelRec.countEdge (prescale : Nat) (r : ChannelRec) : ChannelRec :=
  if r.divider + 1 ≥ prescale then
    { r with divider := 0, flow := satInc 65535 r.flow, noFlow := 0 }
  else { r with divider := r.divider + 1 }

end Sys2Proof.Machine
end

