-- ==== Sys2Proof/Machine/Generator.lean ====
section
/-! DEFINITION. The steam generator and its scale account (chapter 3): states, service, fills and
their accounting, dry-fire, and the marks. -/

namespace Sys2Proof.Machine

/-! ### The GEN row (R44) -/

/-- The GEN row as the state gives it: full rating in HEATING, the demand's share in READY, the
procedure's request at priority 5 in DESCALE, else 0 W with the priority kept (R44, R31). -/
def refreshGenRow (b : Block) : Block :=
  match b.gen.state with
  | .heating => writeGenRow (genRating b) b.gen.prio b
  | .ready => writeGenRow (b.gen.demand * genRating b / 1000) b.gen.prio b
  | .descale => writeGenRow b.descale.heater 5 b
  | .idle | .filling | .cooling | .draining | .waitWater | .fault =>
    writeGenRow 0 b.share.requests.gen.prio b

/-- The generator enters a state and writes its row (R44). -/
def enterGen (st : GenState) (b : Block) : Block :=
  refreshGenRow (setGen { b.gen with state := st } b)

/-- The climate hands over a demand and, in a steam mode, a priority; HEATING and READY rewrite the
row, other states keep them for later (R44, R17). -/
def handOver (demand : Nat) (prio : Option Nat) (b : Block) : Block :=
  let b := setGen { b.gen with demand := demand, prio := prio.getD b.gen.prio } b
  match b.gen.state with
  | .heating | .ready => refreshGenRow b
  | _ => b

/-! ### Scale account (R59 to R62) -/

/-- STEAM_LOCKED and DESCALE_DUE follow their conditions (R61). -/
def followScale (b : Block) : Block :=
  followCondition .descaleDue (scaleDue b) (followCondition .steamLocked (steamLock b) b)

/-- The account after a fill of `pulses` pulses (R59). -/
def ScaleRec.addFill (s : Settings) (pulses : Nat) (a : ScaleRec) : ScaleRec :=
  let x := pulses * 1000 + a.rw
  let w := x / s.kf
  let y := w * s.hardness + a.rs
  let mg := y / 1000
  { scale := min 200000 (a.scale + mg), rw := x - w * s.kf, rs := y - mg * 1000 }

/-- The fill just ended is added to the account, and a SCALE write is queued (R59). -/
def accountFill (b : Block) : Block :=
  let a := b.gen.account.addFill b.settings (b.fill.flow * b.settings.prescale)
  followScale (queueScale (setGen { b.gen with account := a } b))

/-- The generator accounts its ended fill and releases FILL (R46, R48). -/
def settleFill (b : Block) : Block :=
  let b := if b.fill.owner = .generator then accountFill b else b
  let b := release .fill .generator b
  setGen { b.gen with held := none } b

/-- A fill of the generator that is in flight is stopped, accounted and released (R49, R78). -/
def stopFill (b : Block) : Block :=
  if b.fill.inFlight ∧ b.fill.owner = .generator then settleFill (endTransfer .fill .stopped b)
  else b

/-- The attention kind a failed fill or drain raises (R46, R51). -/
def EndReason.attention : EndReason → Option AttnKind
  | .count | .noFlow => some .tankEmpty
  | .sourceLost => some .tankMissing
  | .level | .stopped | .interlock => none

/-- An optional kind raised. -/
def raiseOption (k : Option AttnKind) (b : Block) : Block :=
  match k with
  | some k => raiseAttn k .none b
  | none => b

/-- The generator receives its fill's end report: accounts, releases, then acts on the reason; a
fill end that brings the lock sends it to COOLING (R46, R48, R62). An end by STOPPED or INTERLOCK
leaves the state to the event that made it. -/
def genFillEnd (reason : EndReason) (b : Block) : Block :=
  let b := settleFill b
  match reason with
  | .stopped | .interlock => b
  | .level | .count | .noFlow | .sourceLost =>
    let b := raiseOption reason.attention b
    match b.gen.state with
    | .filling =>
      if steamLock b then enterGen .cooling b
      else if reason = .level then enterGen .heating b
      else enterGen .waitWater b
    | .heating | .ready =>
      if steamLock b then enterGen .cooling b
      else if reason = .level then b
      else enterGen .waitWater b
    | _ => b

/-! ### Claims (R46, R48, R50, R58) -/

/-- A service fill or refill (4.2). -/
def serviceFillClaim : Claim :=
  { channel := .fill, owner := .generator, mode := .destSync, target := some .normal, limit := 400 }

/-- A service drain (4.2). -/
def serviceDrainClaim : Claim :=
  { channel := .drain, owner := .generator, mode := .sourceSync, target := none, limit := 600 }

/-- The generator claims a channel for a purpose; none where the claim is refused (R58). -/
def genClaim (k : Claim) (p : Purpose) (b : Block) : Option Block :=
  (claim k b).map fun b => setGen { b.gen with held := some p } b

/-- A fill that ended at its claim is reported at the claim event (R67). -/
def takeImmediateFill (b : Block) : Block :=
  if b.fill.state = .ended ∧ b.fill.owner = .generator then genFillEnd .level b else b

/-- The generator claims a service fill and enters FILLING; none where the claim is refused (R46). -/
def startFilling (b : Block) : Option Block :=
  (genClaim serviceFillClaim .serviceFill b).map fun b => takeImmediateFill (enterGen .filling b)

/-- A refill claimed in HEATING or READY; a refused claim leaves the generator serving (R48, R58). -/
def claimRefill (b : Block) : Block :=
  match genClaim serviceFillClaim .refill b with
  | some b => takeImmediateFill b
  | none => b

/-! ### Service (R45 to R53) -/

/-- The generator enters IDLE without a decision. -/
def restIdle (b : Block) : Block :=
  enterGen .idle (setGen { b.gen with fillRefused := false } b)

/-- The service start decision (R45, R58): the first condition that applies decides. -/
def serviceDecision (b : Block) : Block :=
  if steamLock b then restIdle b
  else if !b.sensors.generator.ok then restIdle b
  else
    match b.gen.level with
    | .dry | .low =>
      match startFilling (setGen { b.gen with fillRefused := false } b) with
      | some b => b
      | none =>
        let b := restIdle b
        setGen { b.gen with fillRefused := true } b
    | .normal | .high => enterGen .heating (setGen { b.gen with fillRefused := false } b)

/-- The generator enters IDLE, and decides at once if steam is wanted (R45). -/
def enterIdle (b : Block) : Block :=
  let b := restIdle b
  if b.climate.steamWanted then serviceDecision b else b

/-- The return from COOLING at the event that sets steam-wanted (R50). -/
def returnFromCooling (b : Block) : Block :=
  if steamLock b || b.gen.serviceDrain || !b.sensors.generator.ok then b
  else
    match b.gen.level with
    | .normal | .high => enterGen .heating b
    | .low => claimRefill (enterGen .heating b)
    | .dry => (startFilling b).getD b

/-- The event that sets steam-wanted (R45, R50). -/
def steamWantedSet (b : Block) : Block :=
  match b.gen.state with
  | .idle => serviceDecision b
  | .cooling => returnFromCooling b
  | _ => b

/-- The event that clears steam-wanted (R49). -/
def steamWantedCleared (b : Block) : Block :=
  match b.gen.state with
  | .filling | .heating | .ready => enterGen .cooling (stopFill b)
  | .waitWater => restIdle b
  | _ => b

/-- A retry of WAIT_WATER (R52). -/
def retryWater (b : Block) : Block :=
  match b.gen.state with
  | .waitWater => serviceDecision b
  | _ => b

/-- A change of level state, as the generator acts on it. A vessel in service that falls DRY goes to
FILLING, with the refill in flight or a fill claimed there; one that is LOW claims a refill, unless its
own is in flight. A refused claim leaves the generator serving, and is made again at the next change to
LOW or DRY, so a rise from DRY to LOW, which a serving generator meets after a refusal alone, claims as
well (R48, R58). -/
def genLevelChange (new : Level) (b : Block) : Block :=
  match b.gen.state with
  | .heating | .ready =>
    let refilling := b.fill.inFlight ∧ b.fill.owner = .generator
    if new = .dry then
      if refilling then
        let b := enterGen .filling b
        setGen { b.gen with held := some .serviceFill } b
      else (startFilling b).getD b
    else if new = .low ∧ ¬ refilling then claimRefill b
    else b
  | .idle => if b.gen.fillRefused && b.climate.steamWanted then serviceDecision b else b
  | _ => b

/-- The end report of the generator's drain, but for the entry into DESCALE's first act (R51): the
channel is released, the service-drain mark cleared, then the reason decides. -/
def genDrainEnd (reason : EndReason) (b : Block) : Block :=
  let b := release .drain .generator b
  let b := setGen { b.gen with held := none, serviceDrain := false } b
  match reason with
  | .level | .count | .sourceLost =>
    let b := if reason = .sourceLost then raiseAttn .tankMissing .none b else b
    if b.gen.state = .draining then
      if b.gen.descaleTake then enterGen .descale b else enterIdle b
    else b
  | .noFlow | .stopped | .interlock => b

/-- A valid GENERATOR sample, below the dry-fire threshold or with the latch set, in the service
states (R47, R50). -/
def genWallSample (v : Int) (b : Block) : Block :=
  match b.gen.state with
  | .heating => if 980 ≤ v then enterGen .ready b else b
  | .ready => if v < 940 then enterGen .heating b else b
  | .cooling =>
    if v < 800 then
      match genClaim serviceDrainClaim .serviceDrain b with
      | some b => enterGen .draining b
      | none => b
    else b
  | _ => b

/-- The event that makes the GENERATOR channel invalid (R53). -/
def genChannelInvalid (b : Block) : Block :=
  match b.gen.state with
  | .filling | .heating | .ready => enterGen .cooling (stopFill b)
  | _ => b

/-- The event that makes the GENERATOR channel valid (R45, R53). -/
def genChannelValid (b : Block) : Block :=
  match b.gen.state with
  | .idle => if b.climate.steamWanted then serviceDecision b else b
  | _ => b

/-! ### Dry-fire (R54) -/

/-- The generator takes the reports of transfers that an interlock, a RESTART or a RESET ended: a fill
of its own is accounted, its channel released, no state changed (R54, R180, R181). -/
def genReleaseEnded (b : Block) : Block :=
  let b := if b.fill.state = .ended ∧ b.fill.owner = .generator then settleFill b else b
  if b.drain.state = .ended ∧ b.drain.owner = .generator then
    let b := release .drain .generator b
    setGen { b.gen with held := none, serviceDrain := false } b
  else b

/-- Every transfer in flight on either channel ends with a reason (R78, R79). -/
def endAllTransfers (reason : EndReason) (b : Block) : Block :=
  endTransfer .drain reason (endTransfer .fill reason b)

/-- The dry-fire latch is set: interlock, transfers ended with INTERLOCK, the generator's fill
accounted, FAULT, GENERATOR_FAULT (R54). -/
def dryFire (b : Block) : Block :=
  let b := setGen { b.gen with dryFire := true } b
  let b := setInterlock .dryFire b
  let b := genReleaseEnded (endAllTransfers .interlock b)
  raiseAttn .generatorFault .none (enterGen .fault b)

end Sys2Proof.Machine
end

