-- ==== Sys2Proof/Machine/Climate.lean ====
section
/-! DEFINITION. The cavity climate (chapter 1): suspension reasons, leaving and entering OFF, the
application of a setting, FAULT, the control computation, the flap, and the standing lamp mark. -/

namespace Sys2Proof.Machine

/-! ### Flap (R20, R21) -/

/-- A flap commanded OPEN (R20). -/
def Flap.toOpen : Flap → Flap
  | .isClosed | .movingClosed => .movingOpen
  | .isOpen => .isOpen
  | .movingOpen => .movingOpen

/-- A flap commanded CLOSED (R20). -/
def Flap.toClosed : Flap → Flap
  | .isOpen | .movingOpen => .movingClosed
  | .isClosed => .isClosed
  | .movingClosed => .movingClosed

/-- The flap commanded OPEN. -/
def openFlap (b : Block) : Block := setClimate { b.climate with flap := b.climate.flap.toOpen } b

/-- The flap commanded CLOSED. -/
def closeFlap (b : Block) : Block :=
  setClimate { b.climate with flap := b.climate.flap.toClosed } b

/-- The standing flap command of the mode held: OPEN in a dry mode, CLOSED in STEAM, none in COMBI
(R21). -/
def commandModeFlap (b : Block) : Block :=
  match b.climate.mode with
  | .steam => closeFlap b
  | .combi => b
  | .fanBake | .topBottom | .grill | .fanGrill | .bottomHeat => openFlap b

/-! ### Requests written 0 (R6, R8, R12, R22) -/

/-- The element rows are written 0 W with the priority of the bias held, and the generator is handed
a demand of 0 with the priority that the mode and the bias held give (R6, R31, R44; DEDUCED for both
priorities, log 8). -/
def zeroDemand (b : Block) : Block :=
  handOver 0 (genPriority b.climate.mode b.climate.bias)
    (writeElementRows 0 0 0 b.climate.bias.elementPrio b)

/-! ### The state derived from the reasons (R3 to R6) -/

/-- The reason set holds a reason. -/
def Reasons.any (r : Reasons) : Bool := r.door || r.runHold || r.silent || r.sensor

/-- Entry to SUSPENDED from ACTIVE (R6). -/
def suspend (b : Block) : Block :=
  zeroDemand (setClimate { b.climate with state := .suspended } b)

/-- Return from SUSPENDED to ACTIVE (R6). -/
def returnActive (b : Block) : Block :=
  commandModeFlap (setClimate { b.climate with state := .active } b)

/-- The reason set replaced, and the state derived anew (R3). -/
def putReasons (r : Reasons) (b : Block) : Block :=
  let b := setClimate { b.climate with reasons := r } b
  match b.climate.state with
  | .active => if r.any then suspend b else b
  | .suspended => if r.any then b else returnActive b
  | .off | .fault => b

/-- DOOR in the reason set follows the door (R4). -/
def putDoorReason (v : Bool) (b : Block) : Block :=
  putReasons { b.climate.reasons with door := v } b

/-- SENSOR in the reason set follows the cavity channel (R4). -/
def putSensorReason (v : Bool) (b : Block) : Block :=
  putReasons { b.climate.reasons with sensor := v } b

/-- RUN_HOLD added or removed by the runner (R5). -/
def putRunHold (v : Bool) (b : Block) : Block :=
  putReasons { b.climate.reasons with runHold := v } b

/-- SILENT added or removed by the link (R5). -/
def putSilentReason (v : Bool) (b : Block) : Block :=
  putReasons { b.climate.reasons with silent := v } b

/-! ### Leaving and entering OFF, FAULT (R7, R8, R22) -/

/-- The steam-wanted flag takes a value, and the generator acts on a change of it (R17, R45, R49). -/
def putSteamWanted (v : Bool) (b : Block) : Block :=
  if b.climate.steamWanted = v then b
  else
    let b := setClimate { b.climate with steamWanted := v } b
    if v then steamWantedSet b else steamWantedCleared b

/-- The climate leaves OFF with the setting it holds (R7). -/
def leaveOff (b : Block) : Block :=
  let c := b.climate
  let st := if c.reasons.any then ClimateState.suspended else ClimateState.active
  let b :=
    setClimate
      { c with
        state := st, integral := 0, u := 0, shortfall := false, openLoop := false
        periodTimer := true } b
  let b := if st = .active then commandModeFlap b else b
  putSteamWanted c.mode.isSteam b

/-- The climate enters OFF; from OFF nothing changes (R8). -/
def enterOff (b : Block) : Block :=
  if b.climate.state = .off then b
  else
    let b := zeroDemand b
    let b :=
      setClimate
        { b.climate with
          state := .off, periodTimer := false, openLoop := false
          flap := b.climate.flap.toOpen
          reasons := { b.climate.reasons with runHold := false, silent := false } } b
    putSteamWanted false b

/-- The climate enters FAULT (R22, R23). -/
def enterFault (b : Block) : Block :=
  let b := zeroDemand b
  let b :=
    setClimate
      { b.climate with
        state := .fault, periodTimer := false, openLoop := false
        flap := b.climate.flap.toOpen } b
  putSteamWanted false b

/-! ### Settings (R2, R10 to R12) -/

/-- A climate setting as applied. -/
structure ClimateSetting where
  mode : Mode
  ts : Int
  ms : Nat
  fan : Nat
  bias : Bias
deriving DecidableEq, Repr

/-- The clamps of R2. -/
def ClimateFields.clamped (f : ClimateFields) : ClimateSetting :=
  { mode := f.mode
    ts := clampInt f.mode.tsRange.1 f.mode.tsRange.2 f.ts
    ms := (clampInt 10 90 f.ms).toNat
    fan := (clampInt 1 5 f.fan).toNat
    bias := f.bias }

/-- The five values of a setting stored. -/
def Climate.store (x : ClimateSetting) (c : Climate) : Climate :=
  { c with mode := x.mode, ts := x.ts, ms := x.ms, fan := x.fan, bias := x.bias }

/-- A taken mode change (R12, R17, R18, R21): the integral and the requests go to 0, steam-wanted
follows the mode, and the flap gets the new mode's command while ACTIVE. The demand of 0 goes with the
generator priority of the mode and the bias held before the change (log 8). -/
def changeMode (x : ClimateSetting) (b : Block) : Block :=
  let b := zeroDemand b
  let b := setClimate { b.climate.store x with integral := 0, openLoop := false } b
  let b := if b.climate.state = .active then commandModeFlap b else b
  putSteamWanted x.mode.isSteam b

/-- The integral after a setting that keeps the mode: reset by a change of Ts of more than 10.0 °C
(R12). -/
def Climate.keptIntegral (c : Climate) (ts : Int) : Int :=
  if 100 < (ts - c.ts).natAbs then 0 else c.integral

/-- A setting applied in every climate state but FAULT (R7, R10, R11, R12). -/
def applySetting (x : ClimateSetting) (b : Block) : Block :=
  match b.climate.state with
  | .off => leaveOff (setClimate (b.climate.store x) b)
  | .active | .suspended =>
    if x.mode ≠ b.climate.mode then changeMode x b
    else
      setClimate { b.climate.store x with integral := b.climate.keptIntegral x.ts } b
  | .fault => b

/-- The fields of a step write (R10). -/
def Step.climate (m : Mode) (x : Step) : ClimateFields :=
  { mode := m, ts := x.setpoint, ms := x.moisture, fan := x.fan, bias := x.bias }

/-- The step write of the runner (R10). -/
def stepWrite (x : Step) (b : Block) : Block :=
  match x.mode with
  | .rest => enterOff b
  | .cook m => applySetting (x.climate m).clamped b

/-! ### Control computation (R14 to R18, R21) -/

/-- The shortfall mark (R14). -/
def shortfallMark (s : Share) : Bool :=
  decide (s.grants.ring + s.grants.top + s.grants.bottom <
    s.requests.ring.watts + s.requests.top.watts + s.requests.bottom.watts)

/-- The error, clamped (R15). -/
def controlError (ts tm : Int) : Int := clampInt (-500) 500 (ts - tm)

/-- The addition to the integral is skipped (R15). -/
def integralHeld (uPrev : Nat) (shortfall : Bool) (e : Int) : Bool :=
  (decide (uPrev = 1000) && decide (0 < e)) || (decide (uPrev = 0) && decide (e < 0)) ||
    (shortfall && decide (0 < e))

/-- The new integral (R15). -/
def newIntegral (i : Int) (uPrev : Nat) (shortfall : Bool) (e : Int) : Int :=
  clampInt (-20000) 20000 (if integralHeld uPrev shortfall e then i else i + e)

/-- The output (R16). -/
def controlOutput (m : Mode) (e i : Int) : Nat :=
  (clampInt 0 1000 ((m.kp * e).tdiv 16 + (m.ki * i).tdiv 256)).toNat

/-- The request of one element (R16). -/
def elementWatts (u share rated : Nat) : Nat := u * share / 100 * rated / 1000

/-- The element rows of an output (R16, R31). -/
def writeOutput (u : Nat) (b : Block) : Block :=
  let s := b.climate.mode.shares
  let r := rating b.straps.cavity
  writeElementRows (elementWatts u s.ring r.ring) (elementWatts u s.top r.top)
    (elementWatts u s.bottom r.bottom) b.climate.bias.elementPrio b

/-- The demand in COMBI with the moisture read (R17). -/
def moistureDemand (ms : Nat) (mm : Int) : Nat := (clampInt 0 1000 (25 * (ms - mm))).toNat

/-- The demand of an expiry (R17, R18). -/
def controlDemand (m : Mode) (u ms : Nat) (mm : Option Int) : Nat :=
  match m with
  | .steam => u
  | .combi =>
    match mm with
    | some mm => moistureDemand ms mm
    | none => ms * 10
  | .fanBake | .topBottom | .grill | .fanGrill | .bottomHeat => 0

/-- The flap command of an expiry, in COMBI alone (R18, R21). -/
def commandMoistureFlap (mm : Option Int) (b : Block) : Block :=
  if b.climate.mode ≠ .combi then b
  else
    match mm with
    | none => closeFlap b
    | some mm =>
      if (b.climate.ms : Int) + 5 ≤ mm then openFlap b
      else if mm ≤ (b.climate.ms : Int) then closeFlap b
      else b

/-- The climate record after an expiry's arithmetic. -/
def Climate.computed (c : Climate) (shortfall : Bool) (tm : Int) (openLoop : Bool) : Climate :=
  let e := controlError c.ts tm
  let i := newIntegral c.integral c.u shortfall e
  { c with
    shortfall := shortfall, integral := i, u := controlOutput c.mode e i, openLoop := openLoop }

/-- The computation of one control period expiry in ACTIVE, with the cavity at `tm` (R14 to R18,
R21). -/
def controlPeriod (tm : Int) (b : Block) : Block :=
  let mm := moistureReading b
  let loopOpen := decide (b.climate.mode = .combi) && mm.isNone
  let b := setClimate (b.climate.computed (shortfallMark b.share) tm loopOpen) b
  let c := b.climate
  let b := writeOutput c.u b
  let b := handOver (controlDemand c.mode c.u c.ms mm) (genPriority c.mode c.bias) b
  commandMoistureFlap mm b

end Sys2Proof.Machine
end

