-- ==== Sys2Proof/Machine/Descale.lean ====
section
/-! DEFINITION. The descaling procedure (chapter 5): its phases, transfers, water waits, soak, end,
abort and resume; and the delivery of a transfer's end report to its owner (R80). -/

namespace Sys2Proof.Machine

/-- The retained record replaced; the block that ends the event queues its write (R82). -/
def setKept (k : DescaleRec) (b : Block) : Block := setDescale { b.descale with kept := k } b

/-- The phase changed. -/
def setPhase (p : DescalePhase) (b : Block) : Block := setKept { b.descale.kept with phase := p } b

/-- A procedure is in progress. -/
def descaling (b : Block) : Bool := decide (b.descale.kept.phase ≠ .idle)

/-- The heater request the procedure gives; the generator in DESCALE writes it at priority 5 (R57,
R89). -/
def giveHeater (w : Nat) (b : Block) : Block :=
  let b := setDescale { b.descale with heater := w } b
  if b.gen.state = .descale then refreshGenRow b else b

/-! ### Transfers (R85, R87) -/

/-- A descale drain (R85). -/
def descaleDrainClaim : Claim :=
  { channel := .drain, owner := .descale, mode := .sourceSync, target := none, limit := 600 }

/-- A descale fill (R87). -/
def descaleFillClaim : Claim :=
  { channel := .fill, owner := .descale, mode := .unsync, target := none, limit := 160 }

/-- The procedure may claim: it owns the generator and holds no channel. -/
def descaleFree (b : Block) : Bool :=
  decide (b.gen.state = .descale) && b.descale.transfer.isNone

/-- A drain is claimed if the wall is known to be below 80.0 °C (R85); a refused claim leaves the phase
as it is. -/
def claimDescaleDrain (b : Block) : Block :=
  if descaleFree b && wallIs b (fun v => decide (v < 800)) then
    match claim descaleDrainClaim b with
    | some b => setDescale { b.descale with transfer := some .drain } b
    | none => b
  else b

/-- A water wait: the mark and the attention kind of its name (R88). -/
def waterWait (w : WaterWait) (b : Block) : Block :=
  raiseAttn (match w with | .tankEmpty => .tankEmpty | .tankMissing => .tankMissing) .none
    (setDescale { b.descale with wait := some w } b)

/-- Entry to SOAK: soak seconds 0, the heater at full rating, the soak timer started (R89, R90). -/
def enterSoak (b : Block) : Block :=
  let b := setPhase .soak b
  let b := setDescale { b.descale with seconds := 0, soakTimer := true } b
  giveHeater (genRating b) b

/-- Exit from SOAK: the timer stops, the heater request becomes 0 W (R89 to R91, R95). -/
def leaveSoak (b : Block) : Block :=
  giveHeater 0 (setDescale { b.descale with seconds := 0, soakTimer := false } b)

/-- Entry to RINSE_HOLD: the hold timer from 0 (R93). -/
def enterRinseHold (b : Block) : Block :=
  let b := setPhase .rinseHold b
  setDescale { b.descale with holdMs := 0, holdTimer := true } b

/-- The phase after a complete fill (R87). -/
def descaleFillDone (b : Block) : Block :=
  match b.descale.kept.phase with
  | .agentFill => enterSoak b
  | .rinseFill => enterRinseHold b
  | _ => b

/-- A channel the procedure held is released, and the transfer-held mark cleared (R85, R87). -/
def releaseDescale (c : Channel) (b : Block) : Block :=
  let b := release c .descale b
  setDescale { b.descale with transfer := none } b

/-- The end report of a descale fill (R87). -/
def descaleFillEnd (reason : EndReason) (b : Block) : Block :=
  let dry := decide (b.fill.levelAtEnd = some .dry)
  let b := releaseDescale .fill b
  match reason with
  | .level => descaleFillDone b
  | .count => if dry then waterWait .tankEmpty b else descaleFillDone b
  | .noFlow => waterWait .tankEmpty b
  | .sourceLost => waterWait .tankMissing b
  | .stopped | .interlock => b

/-- A fill is claimed; one that the HIGH level ends at its claim is reported at once (R87, R67). -/
def claimDescaleFill (b : Block) : Block :=
  if descaleFree b then
    match claim descaleFillClaim b with
    | some b =>
      let b := setDescale { b.descale with transfer := some .fill } b
      if b.fill.state = .ended then descaleFillEnd .level b else b
    | none => b
  else b

/-- The transfer the phase calls for is claimed anew (R85, R87, R88). -/
def claimPhaseTransfer (b : Block) : Block :=
  match b.descale.kept.phase with
  | .drainOld | .agentDrain | .rinseDrain => claimDescaleDrain b
  | .agentFill | .rinseFill => claimDescaleFill b
  | .idle | .addAgent | .soak | .refillClean | .rinseHold => b

/-! ### Phases -/

/-- Entry to ADD_AGENT (R86). -/
def enterAddAgent (b : Block) : Block := raiseAttn .addDescaler .none (setPhase .addAgent b)

/-- Entry to REFILL_CLEAN (R92). -/
def enterRefillClean (b : Block) : Block :=
  let b := setPhase .refillClean b
  raiseAttn .emptyAndRefill .none
    (setDescale
      { b.descale with tankCycle := if tankPresent b then .none else .removed } b)

/-- Entry to AGENT_DRAIN or RINSE_DRAIN (R85). -/
def enterDrainPhase (p : DescalePhase) (b : Block) : Block := claimDescaleDrain (setPhase p b)

/-- Entry to RINSE_FILL (R93). -/
def enterRinseFill (b : Block) : Block := claimDescaleFill (setPhase .rinseFill b)

/-- Entry to AGENT_FILL: rinse owed is set, and STEAM_LOCKED with it, before the claim (R87). -/
def enterAgentFill (b : Block) : Block :=
  let b := setKept { b.descale.kept with phase := .agentFill, rinseOwed := true } b
  claimDescaleFill (followScale b)

/-- DRAIN_OLD examines the level (R84). -/
def examineDrainOld (b : Block) : Block :=
  if b.gen.level = .dry then enterAddAgent b else claimDescaleDrain b

/-- The climate enters FAULT if the overtemperature latch is set when the procedure ends (R23). -/
def faultIfOvertemp (b : Block) : Block := if b.climate.overtemp then enterFault b else b

/-- The procedure ends (R94). -/
def endDescale (b : Block) : Block :=
  let done := b.descale.kept.soakDone
  let b := setDescale (.initial .initial) b
  let b := followScale b
  let b := if done then raiseAttn .descaleDone .none b else b
  let b := setGen { b.gen with descaleTake := false } b
  let b := if b.gen.state = .descale then enterIdle b else b
  let b := setClimate { b.climate with source := .link } b
  faultIfOvertemp b

/-- A rinse drain is complete: one more rinse, then the next fill or the end (R93, R94). -/
def rinseDone (b : Block) : Block :=
  let n := b.descale.kept.rinses + 1
  let b := setKept { b.descale.kept with rinses := n } b
  if 2 ≤ n then endDescale b else enterRinseFill b

/-- The agent is out: the agent is asked for again, or the clean water (R86, R95). -/
def agentDrained (b : Block) : Block :=
  let k := b.descale.kept
  let b := setKept { k with agentRedo := false } b
  if k.agentRedo && !k.aborted then enterAddAgent b else enterRefillClean b

/-- The phase after a complete drain (R85). -/
def descaleDrainDone (b : Block) : Block :=
  match b.descale.kept.phase with
  | .drainOld => enterAddAgent b
  | .agentDrain => agentDrained b
  | .rinseDrain => rinseDone b
  | _ => b

/-- The end report of a descale drain (R85). -/
def descaleDrainEnd (reason : EndReason) (b : Block) : Block :=
  let b := releaseDescale .drain b
  match reason with
  | .level | .count => descaleDrainDone b
  | .sourceLost => waterWait .tankMissing b
  | .noFlow | .stopped | .interlock => b

/-! ### End reports (R80) -/

/-- The generator's drain has ended; a take that waited for it acts at that event (R51, R84). -/
def genDrainReport (reason : EndReason) (b : Block) : Block :=
  let was := b.gen.state
  let b := genDrainEnd reason b
  if was = .draining ∧ b.gen.state = .descale then examineDrainOld b else b

/-- The end report of a channel in ENDED is handed to its owner (R80). -/
def deliverEnd (c : Channel) (reason : EndReason) (b : Block) : Block :=
  match (b.channel c).owner, c with
  | .generator, .fill => genFillEnd reason b
  | .generator, .drain => genDrainReport reason b
  | .descale, .fill => descaleFillEnd reason b
  | .descale, .drain => descaleDrainEnd reason b
  | .none, _ => b

/-- The transfer of a channel, if in flight, ends and is reported (R80). -/
def endAndDeliver (c : Channel) (reason : EndReason) (b : Block) : Block :=
  if (b.channel c).inFlight then deliverEnd c reason (endTransfer c reason b) else b

/-- The owners take the reports of transfers that a loss of supply, the RESET line or a RESTART ended:
a generator fill is accounted, the channels are released, no state or phase changes (R58, R180,
R181). -/
def settleEnded (b : Block) : Block :=
  let b := genReleaseEnded b
  match b.descale.transfer with
  | some c => releaseDescale c b
  | none => b

/-- A change of level state, delivered to the DRY_LEVEL interlock, the generator and the channels (R38,
R43, R48, R70 to R72). -/
def levelChange (new : Level) (b : Block) : Block :=
  if b.gen.level = new then b
  else
    let b := setGen { b.gen with level := new } b
    let b := followInterlock .dryLevel (decide (new = .dry)) b
    let b := genLevelChange new b
    let b := if levelEnds .fill b.fill new then endAndDeliver .fill .level b else b
    setChannel .drain (beginRunOn new b.drain) b

/-! ### Soak (R89 to R91) -/

/-- The thermostat at a valid sample (R89). -/
def soakSample (v : Int) (b : Block) : Block :=
  if v < 580 then giveHeater (genRating b) b
  else if 620 < v then giveHeater 0 b
  else b

/-- A valid GENERATOR sample in DESCALE: the thermostat, and a claim that waits for it (R85, R87,
R89); a resumed phase is not entered before the end of start-up (R97). -/
def descaleWallSample (v : Int) (b : Block) : Block :=
  if b.gen.state ≠ .descale ∨ b.life.settling.isSome = true then b
  else if b.descale.kept.phase = .soak then soakSample v b
  else if b.descale.wait.isNone then claimPhaseTransfer b
  else b

/-- The GENERATOR channel becomes invalid during a soak (R89). -/
def descaleWallInvalid (b : Block) : Block :=
  if b.gen.state = .descale ∧ b.descale.kept.phase = .soak then giveHeater 0 b else b

/-- The soak completes (R91). -/
def completeSoak (b : Block) : Block :=
  let a := b.gen.account
  let s := a.scale - min a.scale (agentCapacity b.settings.agentClass)
  let b := setGen { b.gen with account := { a with scale := s } } b
  let b := setKept { b.descale.kept with soakDone := true } b
  let b := followScale (queueScale (leaveSoak b))
  enterDrainPhase .agentDrain b

/-- A counted soak second, with its minute and the completion (R90); minutes that already reach the
duration wait for the next counted minute (log 42). -/
def countSoakSecond (b : Block) : Block :=
  if b.descale.seconds + 1 < 60 then
    setDescale { b.descale with seconds := b.descale.seconds + 1 } b
  else
    let n := b.descale.kept.minutes + 1
    let b := setDescale { b.descale with seconds := 0 } b
    let b := setKept { b.descale.kept with minutes := n } b
    if soakDuration b.straps.cavity ≤ n then completeSoak b else b

/-! ### Begin, abort, retry (R83, R88, R95) -/

/-- The record of a procedure just begun (R83). -/
def DescaleRec.begun : DescaleRec := { DescaleRec.initial with phase := .drainOld }

/-- A taken DESCALE BEGIN: the record, the source, and the take of the generator (R57, R83). -/
def beginDescale (b : Block) : Block :=
  let b := setDescale (.initial .begun) b
  let b := setClimate { b.climate with source := .run } b
  let b := setGen { b.gen with serviceDrain := false } b
  if b.gen.state = .draining then setGen { b.gen with descaleTake := true } b
  else examineDrainOld (enterGen .descale b)

/-- The abort mark set in the record. -/
def setAborted (b : Block) : Block := setKept { b.descale.kept with aborted := true } b

/-- The procedure's transfer on a channel is stopped and released (R78, R95). -/
def stopDescale (c : Channel) (b : Block) : Block :=
  if b.descale.transfer = some c then releaseDescale c (endTransfer c .stopped b) else b

/-- REFILL_CLEAN of an abort: entered at once, or, with the generator in FAULT, the phase alone, which is
entered when the generator returns (R95, R96). -/
def abortToRefill (b : Block) : Block :=
  if b.gen.state = .fault then setPhase .refillClean b else enterRefillClean b

/-- A taken DESCALE ABORT, by phase (R95). -/
def abortDescale (b : Block) : Block :=
  match b.descale.kept.phase with
  | .idle => b
  | .drainOld => endDescale (stopDescale .drain b)
  | .addAgent =>
    let b := clearAttn .addDescaler b
    if b.descale.kept.rinseOwed then abortToRefill (setAborted b) else endDescale b
  | .agentFill =>
    let b := stopDescale .fill (setAborted b)
    enterDrainPhase .agentDrain (setDescale { b.descale with wait := none } b)
  | .soak => enterDrainPhase .agentDrain (leaveSoak (setAborted b))
  | .agentDrain | .refillClean | .rinseFill | .rinseHold | .rinseDrain => setAborted b

/-- A retry of a water wait (R88). -/
def retryDescale (b : Block) : Block :=
  match b.descale.wait with
  | some _ => claimPhaseTransfer (setDescale { b.descale with wait := none } b)
  | none => b

/-- The retry that the host's close of TANK_EMPTY makes (R88, R152, log 10). -/
def retryDescaleEmpty (b : Block) : Block :=
  if b.descale.wait = some .tankEmpty then retryDescale b else b

/-- The tank cycle mark at a tank removal (R92). -/
def TankCycle.removal : TankCycle → TankCycle
  | .none | .removed => .removed
  | .cycled => .cycled

/-- The tank cycle mark at a tank insertion (R92). -/
def TankCycle.insertion : TankCycle → TankCycle
  | .none => .none
  | .removed | .cycled => .cycled

/-- The tank cycle mark moves in REFILL_CLEAN alone (R92). -/
def moveTankCycle (f : TankCycle → TankCycle) (b : Block) : Block :=
  if b.descale.kept.phase = .refillClean then
    setDescale { b.descale with tankCycle := f b.descale.tankCycle } b
  else b

/-! ### Dry-fire and resume (R96, R97) -/

/-- The procedure is told of a dry-fire (R96). -/
def descaleDryFire (b : Block) : Block :=
  if descaling b then
    let b := settleEnded b
    setDescale
      { b.descale with wait := none, soakTimer := false, holdTimer := false, heater := 0 } b
  else b

/-- A valid wall sample sets the dry-fire latch (R54, R96). -/
def dryFireAll (b : Block) : Block := descaleDryFire (dryFire b)

/-- The phase is entered from its start, after a GENERATOR CLEAR or, with `fresh`, at the end of a
start-up, which raises the prompts again. After a GENERATOR CLEAR a prompt phase keeps its entry and goes
on; a REFILL_CLEAN without its entry is one that an abort moved to in FAULT, and is entered now. A phase
that gives no heater request leaves the GEN row as it stands (R96, R97, log 36). -/
def restartPhase (fresh : Bool) (b : Block) : Block :=
  match b.descale.kept.phase with
  | .idle => b
  | .drainOld => examineDrainOld b
  | .addAgent => if fresh then enterAddAgent b else b
  | .agentFill =>
    enterDrainPhase .agentDrain (setKept { b.descale.kept with agentRedo := true } b)
  | .soak => if b.descale.kept.soakDone then enterDrainPhase .agentDrain b else enterSoak b
  | .agentDrain | .rinseDrain => claimDescaleDrain b
  | .refillClean => if fresh || !b.attn.has .emptyAndRefill then enterRefillClean b else b
  | .rinseFill => claimDescaleFill b
  | .rinseHold => enterRinseHold b

/-- The phase entry at the end of start-up; a generator that the first sample sent to FAULT lets the
prompts be raised alone (R96, R97). -/
def resumeDescale (b : Block) : Block :=
  if b.gen.state = .fault then
    match b.descale.kept.phase with
    | .addAgent => enterAddAgent b
    | .refillClean => enterRefillClean b
    | _ => b
  else restartPhase true b

/-- The generator returns to DESCALE or IDLE at an accepted GENERATOR CLEAR (R55, R96). -/
def clearDryFire (b : Block) : Block :=
  let b := clearInterlock .dryFire (setGen { b.gen with dryFire := false } b)
  if descaling b then restartPhase false (enterGen .descale b) else enterIdle b

end Sys2Proof.Machine
end

