-- ==== Sys2Proof/Machine/Runner.lean ====
section
/-! DEFINITION. The recipe runner (chapter 7): the hold set, checkpoints, step starts and ends, run
ends, the step timer's order of work, and the step reports. -/

namespace Sys2Proof.Machine

/-- The step fields of the run context replaced. -/
def setStep (f : StepFields) (b : Block) : Block := setRun { b.run with step := f } b

/-! ### Holds (R125) -/

/-- The step in progress is a REST step, whose climate is OFF. -/
def inRest (b : Block) : Bool :=
  decide (b.run.state = .running) && (currentStep b).any fun x => decide (x.mode = .rest)

/-- The hold set replaced; RUN_HOLD follows the first and the last of PAUSE, SILENT and POWER (R5,
R125, log 9). -/
def putHold (h : HoldSet) (b : Block) : Block :=
  let was := b.run.hold.heavy
  let b := setRun { b.run with hold := h } b
  if h.heavy && !was then (if inRest b then b else putRunHold true b)
  else if !h.heavy && was then putRunHold false b
  else b

/-- DOOR in the hold set follows the door (R125). -/
def putHoldDoor (v : Bool) (b : Block) : Block := putHold { b.run.hold with door := v } b

/-- SILENT added to or removed from the hold set (R126). -/
def putHoldSilent (v : Bool) (b : Block) : Block := putHold { b.run.hold with silent := v } b

/-- SENSOR in the hold set follows the cavity channel; the sensor count restarts (R125). -/
def putHoldSensor (v : Bool) (b : Block) : Block :=
  putHold { b.run.hold with sensor := v } (setRun { b.run with sensorCount := 0 } b)

/-! ### Checkpoints (R136) -/

/-- The checkpoint of the context as it stands. -/
def checkpointOf (b : Block) : Option Checkpoint :=
  b.run.slot.map fun n =>
    { slot := n, writeCount := b.run.writeCount, runId := b.run.runId
      startMode := b.run.startMode, running := decide (b.run.state = .running)
      startTime := b.run.startTime, stepIndex := b.run.stepIndex, phase := b.run.phase
      active := b.run.step.active, heat := b.run.step.heat, time := b.clock.now? }

/-- A CHECKPOINT write of the context is queued (R136). -/
def queueCheckpoint (b : Block) : Block := queueWrite (.checkpoint (checkpointOf b)) b

/-! ### Step phases (R118, R120 to R122) -/

/-- Entry to PROMPT (R121). -/
def enterPrompt (x : Step) (b : Block) : Block :=
  let b := setRun { b.run with phase := some .prompt } b
  let b := setStep { b.run.step with doorCycle := if doorOpen b then .opened else .none } b
  raiseAttn .stepPrompt (.prompt x.prompt b.run.stepIndex) b

/-- Entry to ACTIVE (R122). -/
def enterActive (x : Step) (b : Block) : Block :=
  let b := setRun { b.run with phase := some .active } b
  let b :=
    if x.endKind = .confirm then raiseAttn .stepCheck (.step b.run.stepIndex) b else b
  queueCheckpoint b

/-- The step in progress is step 1 of a delayed start (R118). -/
def delayedFirst (b : Block) : Bool := b.run.delayed && decide (b.run.stepIndex = 1)

/-- The phase after the preheat, or of a step without one (R118). -/
def enterAfterPreheat (x : Step) (b : Block) : Block :=
  if x.prompt ≠ .none ∧ delayedFirst b = false then enterPrompt x b else enterActive x b

/-! ### Step start (R118, R138) -/

/-- The resets of a step start, and the conditions that a run's first step start takes (R118). -/
def resetStep (first : Bool) (b : Block) : Block :=
  let h := { b.run.hold with steam := false, probe := false }
  let b := clearAttn .probeNeeded (setRun { b.run with step := .initial, hold := h } b)
  if first then
    setRun
      { b.run with
        hold :=
          { b.run.hold with
            door := b.run.hold.door || doorOpen b
            sensor := b.run.hold.sensor || !b.sensors.cavity.ok }
        sensorCount := 0
        stepTimer := true } b
  else b

/-- The step write with the RUN_HOLD that comes with it (R10, R118); none while the overtemperature
latch is set (R10). -/
def writeStep (x : Step) (b : Block) : Block :=
  if b.climate.overtemp then b
  else
    let b := if x.mode ≠ .rest ∧ b.run.hold.heavy = true then putRunHold true b else b
    stepWrite x b

/-- A step start: the resets, the step write, the mark of a skipped prompt, the first phase, the
checkpoint (R118, R136). -/
def startStep (first : Bool) (b : Block) : Block :=
  match currentStep b with
  | none => b
  | some x =>
    let b := writeStep x (resetStep first b)
    let skipped := delayedFirst b && decide (x.prompt ≠ .none)
    let b := setStep { b.run.step with promptSkipped := skipped } b
    let b :=
      if x.preheat then setRun { b.run with phase := some .preheat } b
      else enterAfterPreheat x b
    queueCheckpoint b

/-- The checkpoint's phase entered again, with its active seconds and heat units in ACTIVE (R138). -/
def enterRestored (phase : StepPhase) (active heat : Nat) (x : Step) (b : Block) : Block :=
  match phase with
  | .preheat => setRun { b.run with phase := some .preheat } b
  | .prompt => enterPrompt x b
  | .active => enterActive x (setStep { b.run.step with active := active, heat := heat } b)

/-- The first step start of a run restored into a step: the checkpoint's phase is entered (R138). Where
the slot's recipe has no such step there is no step start (log 40). -/
def restoreStep (phase : StepPhase) (active heat : Nat) (b : Block) : Block :=
  match currentStep b with
  | none => b
  | some x => queueCheckpoint (enterRestored phase active heat x (writeStep x (resetStep true b)))

/-- The run enters RUNNING and begins step 1 (R116 to R118). -/
def beginRun (delayed : Bool) (b : Block) : Block :=
  startStep true
    (setRun
      { b.run with state := .running, startTime := none, stepIndex := 1, delayed := delayed } b)

/-! ### Step end and run end (R124, R132, R134) -/

/-- The report of the step in progress (R127, R134). -/
def stepReport (reason : StepEnd) (b : Block) : Report :=
  let f := b.run.step
  { runId := b.run.runId, stepIndex := b.run.stepIndex, reason := reason, active := f.active
    held := f.held, doorCount := f.doorCount, firstDoor := f.firstDoor, lastDoor := f.lastDoor
    core := coreTemperature b, heat := f.heat, preheatLong := f.preheatLong
    promptSkipped := f.promptSkipped, powerLimited := decide (f.powerLimited ≠ 0)
    steamShort := decide (f.steamShort ≠ 0), steamShortSecs := f.steamShort }

/-- A report pushed: appended below 8 reports, else dropped with the overflow flag (R134). -/
def Reports.push (r : Report) (q : Reports) : Reports :=
  if q.list.length < 8 then { q with list := q.list ++ [r] } else { q with overflow := true }

/-- A report pushed onto the queue. -/
def pushReport (r : Report) (b : Block) : Block := setReports (b.reports.push r) b

/-- The step's entries withdrawn or cleared (R124, R132). -/
def withdrawStep (b : Block) : Block :=
  clearAttn .probeNeeded (clearAttn .stepCheck (clearAttn .stepPrompt b))

/-- The step in progress ends: its entries go, its report is pushed (R124). -/
def closeStep (reason : StepEnd) (b : Block) : Block :=
  let b := withdrawStep b
  pushReport (stepReport reason b) b

/-- The step end reason a run's end gives its current step (R132). -/
def RunEnd.stepEnd : RunEnd → StepEnd
  | .finished => .time
  | .aborted => .aborted
  | .fault => .fault
  | .silent => .silent
  | .sensor => .sensor
  | .powerLoss => .powerLoss

/-- A RUNNING run that does not finish ends its step with the run's reason (R132). -/
def closeEndingStep (reason : RunEnd) (b : Block) : Block :=
  if b.run.state = .running ∧ reason ≠ .finished then closeStep reason.stepEnd b else b

/-- The run-end lamp mark is set by a FINISHED end of a recipe that keeps the lamp (R24, R132). -/
def markLamp (reason : RunEnd) (b : Block) : Block :=
  if reason = .finished ∧ b.run.recipe.any Recipe.keepLamp then
    setClimate { b.climate with lampMark := true } b
  else b

/-- At the return to IDLE the climate enters OFF, or stays in FAULT with the latch set; RUN_HOLD goes
with the hold set, and the source becomes LINK (R5, R9, R23). -/
def releaseClimate (b : Block) : Block :=
  let b := if b.climate.overtemp then b else enterOff b
  let b := putRunHold false b
  setClimate { b.climate with source := .link } b

/-- The run ends (R132). -/
def endRun (reason : RunEnd) (b : Block) : Block :=
  if b.run.state = .idle then b
  else
    let id := b.run.runId
    let b := closeEndingStep reason b
    let b := clearAttn .powerRestored (withdrawStep b)
    let b := markLamp reason b
    let b := raiseAttn .runEnded (.runEnd reason id) b
    let b := queueWrite (.checkpoint none) b
    releaseClimate (setRun .cleared b)

/-- The step in progress ends and the next one starts, or the run finishes (R124). -/
def endStep (reason : StepEnd) (b : Block) : Block :=
  let b := closeStep reason b
  let last := b.run.recipe.elim 0 (·.steps.length)
  if b.run.stepIndex < last then
    startStep false (setRun { b.run with stepIndex := b.run.stepIndex + 1 } b)
  else endRun .finished b

/-! ### The step timer (R119, R120, R122, R123, R127, R128) -/

/-- STEAM in the hold set at an expiry of a STEAM step (R127). -/
def steamHold (x : Step) (b : Block) : Block :=
  if x.mode = .cook .steam then
    let v :=
      decide (b.gen.state = .waitWater) || decide (b.gen.state = .fault) || steamLock b
    setRun { b.run with hold := { b.run.hold with steam := v } } b
  else b

/-- The probe count acts in ACTIVE of a CORE or HEAT_UNITS step (R128). -/
def probeCounts (x : Step) (b : Block) : Bool :=
  decide (b.run.phase = some .active) &&
    (decide (x.endKind = .core) || decide (x.endKind = .heatUnits))

/-- The probe count, PROBE and PROBE_NEEDED at an expiry (R128). -/
def probeHold (x : Step) (b : Block) : Block :=
  if probeCounts x b then
    match coreTemperature b with
    | none =>
      let n := satInc 60 b.run.step.probeCount
      let b := setStep { b.run.step with probeCount := n } b
      if 60 ≤ n then
        raiseAttn .probeNeeded .none
          (setRun { b.run with hold := { b.run.hold with probe := true } } b)
      else b
    | some _ =>
      let b := setStep { b.run.step with probeCount := 0 } b
      if b.run.hold.probe then
        clearAttn .probeNeeded
          (setRun { b.run with hold := { b.run.hold with probe := false } } b)
      else b
  else b

/-- A door-open second (R119). -/
def countDoorSecond (b : Block) : Block :=
  if doorOpen b then
    setStep { b.run.step with doorOpen := satInc 65535 b.run.step.doorOpen } b
  else b

/-- The preheat threshold (R120). -/
def preheatThreshold (c : Climate) : Int := if c.mode = .steam then c.ts - 30 else c.ts - 50

/-- One second of PREHEAT (R120). -/
def preheatSecond (x : Step) (b : Block) : Block :=
  let n := satInc 1800 b.run.step.preheat
  let b := setStep { b.run.step with preheat := n } b
  if (measuredTm b).any fun tm => decide (preheatThreshold b.climate ≤ tm) then
    enterAfterPreheat x b
  else if 1800 ≤ n then
    enterAfterPreheat x (setStep { b.run.step with preheatLong := true } b)
  else b

/-- The heat units one second adds (R123); a REST step's base acts as any other's (DESIGN CHOICE, log 46). -/
def heatAdded (x : Step) (core : Option Int) : Nat :=
  match core, x.huBase with
  | some tc, some base => if x.endKind = .heatUnits then (tc - base).toNat else 0
  | _, _ => 0

/-- The seconds and units one second of ACTIVE counts (R122, R123, R127). -/
def countActive (x : Step) (b : Block) : Block :=
  let f := b.run.step
  let short := decide (x.mode = .cook .combi) && decide (b.gen.state ≠ .ready)
  let cut :=
    b.climate.shortfall || decide (b.share.grants.gen < b.share.requests.gen.watts)
  setStep
    { f with
      active := satInc 65535 f.active
      heat := min 4294967295 (f.heat + heatAdded x (coreTemperature b))
      steamShort := if short then satInc 65535 f.steamShort else f.steamShort
      powerLimited := if cut then satInc 65535 f.powerLimited else f.powerLimited } b

/-- Why an ACTIVE step ends at an expiry, if it does (R122). -/
def activeEnd (x : Step) (f : StepFields) (core : Option Int) : Option StepEnd :=
  match x.endKind with
  | .time => if f.active = x.limit then some .time else none
  | .core =>
    match core, x.coreTarget with
    | some tc, some t =>
      if t ≤ tc then some .coreReached
      else if f.active = x.limit then some .limit
      else none
    | _, _ => if f.active = x.limit then some .limit else none
  | .heatUnits =>
    if x.huTarget.any fun t => decide (t * 600 ≤ f.heat) then some .huReached
    else if f.active = x.limit then some .limit
    else none
  | .confirm => if x.limit ≠ 0 ∧ f.active = x.limit then some .limit else none

/-- One second of ACTIVE (R122). -/
def activeSecond (x : Step) (b : Block) : Block :=
  let b := countActive x b
  match activeEnd x b.run.step (coreTemperature b) with
  | some r => endStep r b
  | none => if b.run.step.active % 60 = 0 then queueCheckpoint b else b

/-- The phase acts at an expiry with an empty hold set (R119). -/
def phaseSecond (x : Step) (b : Block) : Block :=
  match b.run.phase with
  | some .preheat => preheatSecond x b
  | some .active => activeSecond x b
  | some .prompt | none => b

/-- The sensor count at an expiry with SENSOR present (R119). -/
def countSensor (b : Block) : Block :=
  if b.run.hold.sensor then
    setRun { b.run with sensorCount := satInc 60 b.run.sensorCount } b
  else b

/-- One expiry of the step timer, in the order of R119. -/
def stepSecond (b : Block) : Block :=
  match currentStep b with
  | none => b
  | some x =>
    let b := countSensor (probeHold x (steamHold x b))
    if b.run.hold.sensor ∧ 60 ≤ b.run.sensorCount then endRun .sensor b
    else
      let b := countDoorSecond b
      if b.run.hold.any then
        setStep { b.run.step with held := satInc 65535 b.run.step.held } b
      else phaseSecond x b

/-! ### Door and closes (R121, R122, R133) -/

/-- A door-open event in RUNNING: the count, the times, DOOR, the door cycle (R121, R125, R133). -/
def runDoorOpened (b : Block) : Block :=
  if b.run.state = .running then
    let f := b.run.step
    let now := b.clock.now?
    let f :=
      { f with
        doorCount := satInc 255 f.doorCount
        lastDoor := now
        firstDoor := if f.doorCount = 0 then now else f.firstDoor
        doorCycle :=
          if b.run.phase = some .prompt ∧ f.doorCycle = .none then .opened else f.doorCycle }
    putHoldDoor true (setStep f b)
  else b

/-- A door-close event in RUNNING (R121, R125). -/
def runDoorClosed (b : Block) : Block :=
  if b.run.state = .running then
    let f := b.run.step
    let c :=
      if b.run.phase = some .prompt ∧ f.doorCycle = .opened then DoorCycle.cycled
      else f.doorCycle
    putHoldDoor false (setStep { f with doorCycle := c } b)
  else b

/-- The close of STEP_PROMPT is accepted: a step that requires the door cycle has seen one (R121); in a
REST step the field has no effect (R101). -/
def promptCloseReady (b : Block) : Bool :=
  match currentStep b with
  | some x => !x.doorCycle || decide (x.mode = .rest) || decide (b.run.step.doorCycle = .cycled)
  | none => true

/-- The runner acts on an accepted close of STEP_PROMPT (R121). -/
def promptClosed (b : Block) : Block :=
  match currentStep b with
  | some x => if b.run.phase = some .prompt then enterActive x b else b
  | none => b

/-- The runner acts on the close of STEP_CHECK (R122). -/
def checkClosed (b : Block) : Block :=
  if b.run.phase = some .active then endStep .confirmed b else b

/-! ### RUN START (R115, R116) -/

/-- The nominal duration of a recipe (R115). -/
def nominalDuration (c : CavityClass) (r : Recipe) : Nat :=
  (r.steps.map fun x => x.limit + if x.preheat then preheatAllowance c else 0).sum

/-- The recipe has a STEAM step. -/
def Recipe.usesSteam (r : Recipe) : Bool := r.steps.any fun x => decide (x.mode = .cook .steam)

/-- The recipe has a CONFIRM step of time limit 0. -/
def Recipe.endless (r : Recipe) : Bool :=
  r.steps.any fun x => decide (x.endKind = .confirm) && decide (x.limit = 0)

end Sys2Proof.Machine
end

