-- ==== Sys2Proof/Machine/Event.lean ====
section
/-! DEFINITION. What every event shares: the gate of a live part, standby and wake (R182 to R184), the
host-silence timer (R193), the conditions examined as an event ends, and the frame of a handled
request (R188). -/

namespace Sys2Proof.Machine

/-! ### Silence timer (R193) -/

/-- The silence timer restarted from 0 if its condition holds, the mark cleared (R193). -/
def restartSilence (b : Block) : Block :=
  setSilence { running := silenceCondition b, ms := 0, mark := false } b

/-- The silence timer stopped, the mark kept (R183). -/
def stopSilence (b : Block) : Block :=
  setSilence { b.silence with running := false, ms := 0 } b

/-! ### Standby (R183, R184) -/

/-- The counts, accumulators and applied powers as standby entry leaves them (R41). -/
def LoadOut.rested (o : LoadOut) : LoadOut := { o with counted := 0, fired := 0, applied := 0 }

/-- Standby entry (R183). F stays as the last window formed it (log 35). -/
def enterStandby (b : Block) : Block :=
  let b := setInterlock .standby b
  let b :=
    setShare { b.share with
        windowTimer := false, grants := ⟨0, 0, 0, 0⟩
        loads := b.share.loads.mapWith fun _ o => o.rested } b
  let b := setClimate { b.climate with lampMark := false } b
  let b := stopSilence (queueScale b)
  setLife { b.life with power := .standby } b

/-- The wake event (R184). -/
def wake (c : WakeCause) (b : Block) : Block :=
  if b.life.power = .standby then
    let b := setLife { b.life with power := .awake, wake := some c } b
    let b := clearInterlock .standby b
    restartSilence (setShare { b.share with windowTimer := true } b)
  else b

/-! ### The end of an event -/

/-- DOOR_OPEN is raised or cleared where the event changed its condition; start-up decides it at its
end (R144, R155). -/
def examineDoorOpen (before b : Block) : Block :=
  if before.life.settling.isSome || b.life.settling.isSome then b
  else if doorOpenCondition before = doorOpenCondition b then b
  else followCondition .doorOpen (doorOpenCondition b) b

/-- A DESCALE write is queued where the event changed the record (R82). -/
def examineDescaleWrite (before b : Block) : Block :=
  if before.descale.kept = b.descale.kept then b else queueWrite (.descale b.descale.kept) b

/-- The silence timer starts from 0, the mark as it stands, where the event made its condition true, and
stops with the mark cleared where it made it false (R193). DESIGN CHOICE (log 50): an event in standby
that makes the condition true leaves the timer stopped until the wake. -/
def examineSilence (before b : Block) : Block :=
  if silenceCondition before = silenceCondition b then b
  else if silenceCondition b then
    if b.life.power = .standby then b
    else setSilence { b.silence with running := true, ms := 0 } b
  else setSilence .stopped b

/-- A waiting standby request is withdrawn where a condition became false, and taken where the
generator entered IDLE (R182). -/
def examineStandby (before b : Block) : Block :=
  if b.life.power ≠ .standbyRequested then b
  else if standbyAllowed before && !standbyAllowed b then setLife { b.life with power := .awake } b
  else if before.gen.state ≠ .idle ∧ b.gen.state = .idle then enterStandby b
  else b

/-- The store takes a write into flight where the event gave it something to do (R174, R175). -/
def examineStore (before b : Block) : Block :=
  if before.store = b.store ∧ before.life.flush = b.life.flush ∧
      before.life.settling = b.life.settling then b
  else serveStore b

/-- The conditions that depend on several blocks, examined as an event ends. -/
def finishEvent (before b : Block) : Block :=
  examineStore before
    (examineStandby before
      (examineSilence before (examineDescaleWrite before (examineDoorOpen before b))))

/-- An event of a live part: its own effect, then the conditions examined; while the part is off, held
in reset or flushing, no effect (R175, R180, R181). -/
def event (body : Block → Block) (b : Block) : Block :=
  if live b then finishEvent b (body b) else b

/-! ### Requests (R188, R189, R190, R193) -/

/-- A request's outcome: the state after it, its status, and what its reply carries after the
status. -/
structure Answer where
  after : Block
  status : Status
  content : Payload

/-- An answer that changes nothing and carries the status alone. -/
def refuse (st : Status) (b : Block) : Answer := { after := b, status := st, content := [] }

/-- An OK with content. -/
def answerOk (content : Payload) (b : Block) : Answer :=
  { after := b, status := .ok, content := content }

/-- A frame dropped: the dropped flag is set, or, while a reply is owed, set again for the reply after
it; the receiver returns to HUNT (R187, R188, log 14). -/
def dropFrame (b : Block) : Block :=
  setLink
    { b.link with
      rx := .hunt, len := 0, buf := [], check := []
      dropped := b.link.dropped || b.link.owed.isNone
      droppedAgain := b.link.droppedAgain || b.link.owed.isSome } b

/-- SILENT is removed from the hold set and from the climate's reasons (R193). -/
def endSilent (b : Block) : Block :=
  let b := if b.run.hold.silent then putHoldSilent false b else b
  if b.climate.reasons.silent then putSilentReason false b else b

/-- A valid frame handed on: SILENT removed, the silence timer restarted, the receiver in HUNT, all
before the request is handled (R187, R193). -/
def acceptFrame (b : Block) : Block :=
  let b := restartSilence (endSilent b)
  setLink { b.link with rx := .hunt, len := 0, buf := [], check := [] } b

/-- The reply to a request is owed: KIND with bit 7 set, the status byte with the dropped flag, the
content (R186, R188, R190). -/
def oweReply (kind : Byte) (st : Status) (content : Payload) (b : Block) : Block :=
  setLink
    { b.link with
      owed := some ⟨kind ||| 0x80#8, statusByte st b.link.dropped :: content⟩ } b

/-- The answer's state with its reply owed. -/
def Answer.reply (kind : Byte) (a : Answer) : Block := oweReply kind a.status a.content a.after

/-- A whole valid frame of a kind: not received before the end of start-up or by a part that is not
live; dropped while a reply is owed; otherwise handled, and its reply owed (R184, R188). -/
def request (kind : Byte) (handler : Block → Answer) (b : Block) : Block :=
  if !receiving b then b
  else if b.link.owed.isSome then finishEvent b (dropFrame (wake .link b))
  else finishEvent b ((handler (acceptFrame (wake .link b))).reply kind)

/-! ### The machine's view of a block operation -/

/-- A block operation on the machine's state; the queue of waiting commands is not touched. -/
def onBlock (f : Block → Block) (s : State) : Host.Outcome State Fault Refusal :=
  .next { s with toBlock := f s.toBlock }

/-! ### Events that several families share -/

/-- A PENDING run whose start time has been reached enters RUNNING, waking the part (R117, R184). -/
def startIfDue (b : Block) : Block :=
  match b.run.state, b.run.startTime with
  | .pending, some t =>
    if t.after b.clock.time then b else beginRun true (wake .startDue b)
  | _, _ => b

/-- A valid cavity sample at or above 300.0 °C with the latch clear (R22, R23). -/
def overtemperature (b : Block) : Block :=
  let b := setClimate { b.climate with overtemp := true } b
  let b := zeroDemand (setInterlock .overtemp b)
  let b := if descaling b then b else enterFault b
  raiseAttn .cavityOvertemp .none (endRun .fault b)

/-- The loads go off and the transfers in flight end with a reason, settled by their owners (R78 to
R80, R180, R181). -/
def shutDown (reason : EndReason) (b : Block) : Block :=
  settleEnded (endAllTransfers reason (setInterlock .mainsLoss b))

end Sys2Proof.Machine
end

