-- ==== Sys2Proof/Machine/ChannelCommands.lean ====
section
/-! DEFINITION. The events of the water transfer channels (chapter 4): pacing, flow, pause. -/

namespace Sys2Proof.Machine

/-- One pacing expiry of a channel: in ACTIVE an end or a stroke, otherwise nothing (R69, R76). -/
def pacing (c : Channel) (b : Block) : Block :=
  let r := b.channel c
  if r.state = .active then
    match pacingEnd c r with
    | some reason => endAndDeliver c reason b
    | none => setChannel c (r.stroke c) b
  else b

/-- PACING_EXPIRY. -/
def execPacingExpiry (c : Channel) (s : State) : Host.Outcome State Fault Refusal :=
  onBlock (event (pacing c)) s

/-- An edge of the flow meter: the selected kind counts while FILL is ACTIVE (R73, R75). -/
def flowEdge (e : FlowEdge) (b : Block) : Block :=
  if e = b.settings.edge ∧ b.fill.state = .active then
    setChannel .fill (b.fill.countEdge b.settings.prescale) b
  else b

/-- FLOW_EDGE. -/
def execFlowEdge (e : FlowEdge) (s : State) : Host.Outcome State Fault Refusal :=
  onBlock (event (flowEdge e)) s

/-- The pause timer of a PAUSED channel reaches 120 s: SOURCE_LOST (R77). The elapsed pause stays in
the record. -/
def pauseTimeout (c : Channel) (b : Block) : Block :=
  let r := b.channel c
  if r.state = .paused then
    endAndDeliver c .sourceLost (setChannel c { r with pauseMs := 120000 } b)
  else b

/-- PAUSE_TIMEOUT. -/
def execPauseTimeout (c : Channel) (s : State) : Host.Outcome State Fault Refusal :=
  onBlock (event (pauseTimeout c)) s

end Sys2Proof.Machine
end

