-- ==== Sys2Proof/Machine/AttentionCommands.lean ====
section
/-! DEFINITION. The attention list's requests (chapter 8). -/

namespace Sys2Proof.Machine

/-- Entries in the order of PEEK: lowest priority number first, raise order among equals (R149). -/
def byPriority (l : List Entry) : List Entry :=
  (List.range 7).flatMap fun p => l.filter fun e => e.kind.priority = p

/-- The visible entries in the order of PEEK (R146, R149). -/
def Attn.peek (a : Attn) : List Entry := byPriority (a.entries.filter a.visible)

/-- ATTENTION PEEK (R149). -/
def attentionPeekRequest (p : Payload) (b : Block) : Answer :=
  if p ≠ [] then refuse .badLength b
  else answerOk (u8 b.attn.peek.length ++ b.attn.peek.flatMap b.attn.record) b

/-- ATTENTION PEEK. -/
def execAttentionPeek (p : Payload) (s : State) : Host.Outcome State Fault Refusal :=
  onBlock (request 0x50#8 (attentionPeekRequest p)) s

/-- The state of a kind's entry changed. -/
def Attn.putState (a : Attn) (k : AttnKind) (st : EntryState) : Attn :=
  { a with entries := a.entries.map fun e => if e.kind = k then { e with state := st } else e }

/-- The chain top, the entry put into service last (R145). -/
def Attn.top (a : Attn) : Option AttnKind := a.chain.getLast?

/-- The candidate of a TAKE: the first visible PENDING entry in the order of PEEK (R150). -/
def Attn.candidate (a : Attn) : Option Entry := a.peek.find? fun e => e.state = .pending

/-- The chain admits a priority: it is empty, or its top has a higher number (R145, R150). -/
def Attn.admits (a : Attn) (k : AttnKind) : Bool :=
  match a.top with
  | none => true
  | some t => decide (k.priority < t.priority)

/-- An entry put into service at the chain's end (R145, R150). -/
def Attn.serve (a : Attn) (k : AttnKind) : Attn :=
  { a.putState k .inService with chain := a.chain ++ [k] }

/-- ATTENTION TAKE (R150). -/
def attentionTakeRequest (p : Payload) (b : Block) : Answer :=
  if p ≠ [] then refuse .badLength b
  else
    match b.attn.candidate with
    | none => refuse .none b
    | some e =>
      if b.attn.admits e.kind then
        let a := b.attn.serve e.kind
        answerOk (a.record { e with state := .inService }) (setAttn a b)
      else refuse .none b

/-- ATTENTION TAKE. -/
def execAttentionTake (p : Payload) (s : State) : Host.Outcome State Fault Refusal :=
  onBlock (request 0x51#8 (attentionTakeRequest p)) s

/-- The outcome of a close that is carried out (R151). -/
inductive CloseOutcome
  | removed | acknowledged
deriving DecidableEq, Repr

/-- The code of an outcome (R194). -/
def CloseOutcome.code : CloseOutcome → Nat
  | .removed => 0 | .acknowledged => 1

/-- The OK of a close: the kind's code and the outcome (R151, R194). -/
def closed (k : AttnKind) (o : CloseOutcome) (b : Block) : Answer :=
  answerOk (u8 k.code ++ u8 o.code) b

/-- The owners act on a host close that removed a latched entry: TANK_EMPTY is reported to the
generator and the descaling procedure (R152). -/
def latchedClosed (k : AttnKind) (b : Block) : Block :=
  if k = .tankEmpty then retryDescaleEmpty (retryWater b) else b

/-- A condition entry becomes ACKNOWLEDGED and leaves the chain (R153). -/
def Attn.acknowledge (a : Attn) (k : AttnKind) : Attn :=
  { a.putState k .acknowledged with chain := a.chain.filter (· ≠ k) }

/-- The owner of a prompt accepts its close (R86, R92, R121, R122). -/
def promptReady (k : AttnKind) (b : Block) : Bool :=
  match k with
  | .addDescaler =>
    decide (b.descale.kept.phase = .addAgent) && tankPresent b && decide (b.gen.state = .descale)
  | .emptyAndRefill =>
    decide (b.descale.kept.phase = .refillClean) && decide (b.descale.tankCycle = .cycled) &&
      tankPresent b && decide (b.gen.state = .descale)
  | .stepPrompt => promptCloseReady b
  | _ => true

/-- The owner of a prompt acts on its accepted close (R86, R92, R121, R122, R154). -/
def promptAccepted (k : AttnKind) (b : Block) : Block :=
  match k with
  | .addDescaler => enterAgentFill b
  | .emptyAndRefill => enterRinseFill b
  | .stepPrompt => promptClosed b
  | .stepCheck => checkClosed b
  | _ => b

/-- The addressed entry is closed by the rule of its class (R152 to R154). -/
def closeEntry (k : AttnKind) (b : Block) : Answer :=
  match k.cls with
  | .latched => closed k .removed (latchedClosed k (clearAttn k b))
  | .condition =>
    if conditionHolds b k then closed k .acknowledged (setAttn (b.attn.acknowledge k) b)
    else closed k .removed (clearAttn k b)
  | .prompt =>
    if promptReady k b then closed k .removed (promptAccepted k (clearAttn k b))
    else { after := b, status := .notReady, content := u8 k.code }

/-- The kind a code from 1 to 17 names (R141). -/
def kindOf (n : Nat) : Option AttnKind := AttnKind.all.find? fun k => k.code = n

/-- A kind's entry can be closed by name: in service, or PENDING and latched (R151 cases 5, 6). -/
def closable (b : Block) (k : AttnKind) : Bool :=
  (b.attn.find k).any fun e =>
    decide (e.state = .inService) ||
      (decide (e.state = .pending) && decide (k.cls = .latched))

/-- ATTENTION CLOSE, by the cases of R151 in their order. -/
def attentionCloseRequest (p : Payload) (b : Block) : Answer :=
  if p.length ≠ 1 then refuse .badLength b
  else if 17 < byteAt p 0 then refuse .invalid b
  else if byteAt p 0 = 0 then
    match b.attn.top with
    | none => refuse .none b
    | some k => closeEntry k b
  else
    match kindOf (byteAt p 0) with
    | none => refuse .invalid b
    | some k => if closable b k then closeEntry k b else refuse .refusedState b

/-- ATTENTION CLOSE. -/
def execAttentionClose (p : Payload) (s : State) : Host.Outcome State Fault Refusal :=
  onBlock (request 0x52#8 (attentionCloseRequest p)) s

/-- ATTENTION MASK (R147). -/
def attentionMaskRequest (p : Payload) (b : Block) : Answer :=
  if p.length ≠ 4 then refuse .badLength b
  else
    let m := maskOf (p.take 3)
    let t := min 7 (byteAt p 3)
    answerOk (maskBytes m ++ u8 t) (setAttn { b.attn with mask := m, threshold := t } b)

/-- ATTENTION MASK. -/
def execAttentionMask (p : Payload) (s : State) : Host.Outcome State Fault Refusal :=
  onBlock (request 0x53#8 (attentionMaskRequest p)) s

end Sys2Proof.Machine
end

