-- ==== Sys2Proof/Machine/ClimateCommands.lean ====
section
/-! DEFINITION. The climate's commands: CLIMATE SET, CLIMATE OFF, the control period, the flap's end of
travel. -/

namespace Sys2Proof.Machine

/-- The five values of a CLIMATE SET reply (R11). -/
def climateBytes (c : Climate) : Payload :=
  u8 c.mode.code ++ i16 c.ts ++ u8 c.ms ++ u8 c.fan ++ u8 c.bias.code

/-- A taken CLIMATE SET (R11): the source LINK, the run-end lamp mark cleared, the setting applied. -/
def takeClimateSet (x : ClimateSetting) (b : Block) : Block :=
  applySetting x (setClimate { b.climate with source := .link, lampMark := false } b)

/-- CLIMATE SET, by the checks of R11 in their order. -/
def climateSetRequest (p : Payload) (b : Block) : Answer :=
  if p.length ≠ 6 then refuse .badLength b
  else
    match climateFields p with
    | none => refuse .invalid b
    | some f =>
      if descaling b then refuse .descaleActive b
      else if b.run.state ≠ .idle then refuse .runOwns b
      else if b.climate.overtemp then refuse .refusedState b
      else
        let b := takeClimateSet f.clamped b
        answerOk (climateBytes b.climate) b

/-- CLIMATE SET. -/
def execClimateSet (p : Payload) (s : State) : Host.Outcome State Fault Refusal :=
  onBlock (request 0x10#8 (climateSetRequest p)) s

/-- The cavity has cooled to 200.0 °C, taken without the offset (R13). -/
def cavityCooled (b : Block) : Bool := (cavityValue b).any fun v => decide (v ≤ 2000)

/-- The overtemperature latch and its interlock cleared; a climate in FAULT enters OFF (R13). -/
def clearOvertemp (b : Block) : Block :=
  let b := clearInterlock .overtemp (setClimate { b.climate with overtemp := false } b)
  if b.climate.state = .fault then enterOff b else b

/-- CLIMATE OFF, by the cases of R13 in their order. -/
def climateOffRequest (p : Payload) (b : Block) : Answer :=
  if p ≠ [] then refuse .badLength b
  else if b.climate.overtemp then
    if cavityCooled b then answerOk [] (clearOvertemp b) else refuse .refusedState b
  else if descaling b then refuse .descaleActive b
  else if b.run.state ≠ .idle then refuse .runOwns b
  else answerOk [] (enterOff b)

/-- CLIMATE OFF. -/
def execClimateOff (p : Payload) (s : State) : Host.Outcome State Fault Refusal :=
  onBlock (request 0x11#8 (climateOffRequest p)) s

/-- One expiry of the control period: the computation in ACTIVE, nothing in SUSPENDED, and no expiry
while the timer is stopped (R6, R7, R14). -/
def controlExpiry (b : Block) : Block :=
  if b.climate.periodTimer ∧ b.climate.state = .active then
    match measuredTm b with
    | some tm => controlPeriod tm b
    | none => b
  else b

/-- CONTROL_PERIOD_EXPIRY. -/
def execControlPeriodExpiry (s : State) : Host.Outcome State Fault Refusal :=
  onBlock (event controlExpiry) s

/-- The flap reaches the end it travels to; a flap that does not turn has no travel to end (R20, R39). -/
def flapEnd (b : Block) : Block :=
  if flapTurning b then
    match b.climate.flap with
    | .movingOpen => setClimate { b.climate with flap := .isOpen, flapPos := 4000 } b
    | .movingClosed => setClimate { b.climate with flap := .isClosed, flapPos := 0 } b
    | .isOpen | .isClosed => b
  else b

/-- FLAP_TRAVEL_END. -/
def execFlapTravelEnd (s : State) : Host.Outcome State Fault Refusal := onBlock (event flapEnd) s

end Sys2Proof.Machine
end

