-- ==== Sys2Proof/Machine/DescaleCommands.lean ====
section
/-! DEFINITION. The descaling procedure's commands: DESCALE BEGIN, DESCALE ABORT, the soak timer and
the rinse hold (chapter 5). -/

namespace Sys2Proof.Machine

/-- DESCALE BEGIN, by the checks of R83 in their order. -/
def descaleBeginRequest (p : Payload) (b : Block) : Answer :=
  if p ≠ [] then refuse .badLength b
  else if b.climate.state ≠ .off then refuse .refusedState b
  else if b.run.state ≠ .idle then refuse .refusedState b
  else if b.gen.state = .fault then refuse .refusedState b
  else if descaling b then refuse .busy b
  else answerOk [] (beginDescale b)

/-- DESCALE BEGIN. -/
def execDescaleBegin (p : Payload) (s : State) : Host.Outcome State Fault Refusal :=
  onBlock (request 0x28#8 (descaleBeginRequest p)) s

/-- DESCALE ABORT (R95). -/
def descaleAbortRequest (p : Payload) (b : Block) : Answer :=
  if p ≠ [] then refuse .badLength b
  else if !descaling b then refuse .refusedState b
  else answerOk [] (abortDescale b)

/-- DESCALE ABORT. -/
def execDescaleAbort (p : Payload) (s : State) : Host.Outcome State Fault Refusal :=
  onBlock (request 0x29#8 (descaleAbortRequest p)) s

/-- One expiry of the soak timer: a second counts with the wall at or above 55.0 °C (R90). -/
def soakExpiry (b : Block) : Block :=
  if b.descale.soakTimer ∧ b.descale.kept.phase = .soak ∧ b.gen.state = .descale ∧
      wallIs b (fun v => decide (550 ≤ v)) = true then countSoakSecond b
  else b

/-- SOAK_TIMER_EXPIRY. -/
def execSoakTimerExpiry (s : State) : Host.Outcome State Fault Refusal :=
  onBlock (event soakExpiry) s

/-- The hold timer reaches 60 s: RINSE_DRAIN (R93). -/
def rinseHoldEnd (b : Block) : Block :=
  if b.descale.holdTimer ∧ b.descale.kept.phase = .rinseHold then
    enterDrainPhase .rinseDrain
      (setDescale { b.descale with holdTimer := false, holdMs := 60000 } b)
  else b

/-- RINSE_HOLD_EXPIRY. -/
def execRinseHoldExpiry (s : State) : Host.Outcome State Fault Refusal :=
  onBlock (event rinseHoldEnd) s

end Sys2Proof.Machine
end

