-- ==== Sys2Proof/Machine/GeneratorCommands.lean ====
section
/-! DEFINITION. GENERATOR DRAIN and GENERATOR CLEAR (3.4, 3.5). -/

namespace Sys2Proof.Machine

/-- A taken GENERATOR DRAIN: the service-drain mark, COOLING (R56). -/
def takeGeneratorDrain (b : Block) : Block :=
  enterGen .cooling (setGen { b.gen with serviceDrain := true } b)

/-- GENERATOR DRAIN (R56). -/
def generatorDrainRequest (p : Payload) (b : Block) : Answer :=
  if p ≠ [] then refuse .badLength b
  else if b.gen.state = .idle ∨ b.gen.state = .waitWater then answerOk [] (takeGeneratorDrain b)
  else refuse .busy b

/-- GENERATOR DRAIN. -/
def execGeneratorDrain (p : Payload) (s : State) : Host.Outcome State Fault Refusal :=
  onBlock (request 0x20#8 (generatorDrainRequest p)) s

/-- The wall has cooled to 110.0 °C (R55). -/
def wallCooled (b : Block) : Bool := wallIs b fun v => decide (v ≤ 1100)

/-- GENERATOR CLEAR (R55). -/
def generatorClearRequest (p : Payload) (b : Block) : Answer :=
  if p ≠ [] then refuse .badLength b
  else if b.gen.state ≠ .fault then refuse .refusedState b
  else if wallCooled b then answerOk [] (clearDryFire b)
  else refuse .refusedState b

/-- GENERATOR CLEAR. -/
def execGeneratorClear (p : Payload) (s : State) : Host.Outcome State Fault Refusal :=
  onBlock (request 0x21#8 (generatorClearRequest p)) s

end Sys2Proof.Machine
end

