-- ==== Sys2Proof/Machine/RecipeCommands.lean ====
section
/-! DEFINITION. The recipe store's requests (chapter 6). -/

namespace Sys2Proof.Machine

/-- The slot a number names (R102, R107 to R109). -/
def slotOf (n : Nat) : Option (Fin 16) := if h : n < 16 then some ⟨n, h⟩ else none

/-- The resident record of a slot. -/
def resident (b : Block) (n : Fin 16) : SlotRec := b.store.slots.get n

/-- The write count of the next store into a slot (R104). -/
def nextCount (n : Nat) : Nat := if 65535 ≤ n then 0 else n + 1

/-- A taken STORE: the image queued as the slot's write (R104). -/
def takeStore (n : Fin 16) (r : Recipe) (b : Block) : Block :=
  queueWrite (.slot n ⟨some r, nextCount (resident b n).count⟩) b

/-- RECIPE STORE, by the checks of R102 and R103 in their order. -/
def recipeStoreRequest (p : Payload) (b : Block) : Answer :=
  if p.length < 19 then refuse .badLength b
  else
    match slotOf (byteAt p 0) with
    | none => refuse .range b
    | some n =>
      if slotBusy b n then refuse .busy b
      else
        match readRecipe p with
        | .badLength => refuse .badLength b
        | .invalid i f => { after := b, status := .invalid, content := u8 i ++ u8 f.code }
        | .sound r =>
          answerOk (u8 n.val ++ u16 (nextCount (resident b n).count)) (takeStore n r b)

/-- RECIPE STORE. -/
def execRecipeStore (p : Payload) (s : State) : Host.Outcome State Fault Refusal :=
  onBlock (request 0x30#8 (recipeStoreRequest p)) s

/-- The checks that RECIPE READ and RECIPE ERASE share: length, slot number, pending write (R106 to
R108). -/
def slotRequest (p : Payload) (b : Block) (k : Fin 16 → Answer) : Answer :=
  if p.length ≠ 1 then refuse .badLength b
  else
    match slotOf (byteAt p 0) with
    | none => refuse .range b
    | some n => if slotBusy b n then refuse .busy b else k n

/-- RECIPE READ (R107). -/
def recipeReadRequest (p : Payload) (b : Block) : Answer :=
  slotRequest p b fun n =>
    match (resident b n).recipe with
    | none => { after := b, status := .emptySlot, content := u16 (resident b n).count }
    | some r => answerOk (recipeBytes n.val r ++ u16 (resident b n).count) b

/-- RECIPE READ. -/
def execRecipeRead (p : Payload) (s : State) : Host.Outcome State Fault Refusal :=
  onBlock (request 0x31#8 (recipeReadRequest p)) s

/-- RECIPE ERASE (R108). -/
def recipeEraseRequest (p : Payload) (b : Block) : Answer :=
  slotRequest p b fun n =>
    match (resident b n).recipe with
    | none => refuse .emptySlot b
    | some _ =>
      answerOk (u8 n.val ++ u16 (resident b n).count)
        (queueWrite (.slot n ⟨none, (resident b n).count⟩) b)

/-- RECIPE ERASE. -/
def execRecipeErase (p : Payload) (s : State) : Host.Outcome State Fault Refusal :=
  onBlock (request 0x32#8 (recipeEraseRequest p)) s

/-- The record an entry of the list shows: the image of a pending STORE, else the resident one
(R109). -/
def listedRecord (b : Block) (n : Fin 16) : SlotRec :=
  match slotWrite b n with
  | some v => if v.recipe.isSome then v else resident b n
  | none => resident b n

/-- The twenty bytes of one entry of the list (R109). -/
def listEntry (b : Block) (n : Fin 16) : Payload :=
  let v := listedRecord b n
  u8 (slotView b n).code ++ nameField (v.recipe.elim [] Recipe.name) ++
    u8 (v.recipe.elim 0 fun r => r.steps.length) ++ u16 v.count

/-- The eight slots of a group. -/
def groupSlots (g : Nat) : List (Fin 16) := (List.finRange 16).filter fun n => n.val / 8 = g

/-- RECIPE LIST (R109). -/
def recipeListRequest (p : Payload) (b : Block) : Answer :=
  if p.length ≠ 1 then refuse .badLength b
  else if 1 < byteAt p 0 then refuse .range b
  else answerOk (u8 (byteAt p 0) ++ (groupSlots (byteAt p 0)).flatMap (listEntry b)) b

/-- RECIPE LIST. -/
def execRecipeList (p : Payload) (s : State) : Host.Outcome State Fault Refusal :=
  onBlock (request 0x33#8 (recipeListRequest p)) s

end Sys2Proof.Machine
end

