-- ==== Sys2Proof/Machine/RunCommands.lean ====
section
/-! DEFINITION. The recipe runner's commands (chapter 7): the run requests, the step timer, the report
requests. -/

namespace Sys2Proof.Machine

/-! ### RUN START (R114 to R116) -/

/-- The start time of a RUN START (R115). -/
def startTimeOf (c : CavityClass) (r : Recipe) (f : StartFields) : Option ClockTime :=
  match f.mode with
  | .now => none
  | .atTime => f.time
  | .readyBy => f.time.map fun t => t.minus (nominalDuration c r)

/-- The start time lies after the present clock time (R116). -/
def startsLater (b : Block) (t : Option ClockTime) : Bool :=
  t.any fun t => t.after b.clock.time

/-- The time given lies more than a day ahead (R114 check 11). -/
def tooFarAhead (b : Block) (f : StartFields) : Bool :=
  f.time.any fun t => decide (86400 < t.diff b.clock.time)

/-- The flags of the reply: START_NOW and LATE (R116). -/
def startFlags (m : StartMode) (later : Bool) : Payload :=
  setByte [decide (m = .atTime) && !later, decide (m = .readyBy) && !later]

/-- The context of a run just taken, before it enters PENDING or RUNNING (R113, R116). -/
def takenRun (n : Fin 16) (r : Recipe) (count id : Nat) (m : StartMode) : Run :=
  { Run.cleared with
    recipe := some r, slot := some n, writeCount := count, runId := id, startMode := m }

/-- A taken RUN START: the run id, the copy, the source RUN, then PENDING or step 1 (R113, R116). -/
def takeRunStart (n : Fin 16) (r : Recipe) (f : StartFields) (b : Block) : Block :=
  let id := (b.runCounter + 1) % 256
  let t := startTimeOf b.straps.cavity r f
  let later := startsLater b t
  let b := setRunCounter id b
  let b := setRun (takenRun n r (resident b n).count id f.mode) b
  let b := setClimate { b.climate with source := .run } b
  if later then queueCheckpoint (setRun { b.run with state := .pending, startTime := t } b)
  else beginRun false b

/-- The content of the OK reply (R116, R194). -/
def runStartBytes (r : Recipe) (f : StartFields) (before b : Block) : Payload :=
  let t := startTimeOf before.straps.cavity r f
  u8 b.runCounter ++ u8 (if startsLater before t then RunState.pending else .running).code ++
    u32 (nominalDuration before.straps.cavity r) ++ clockTime? t ++
    startFlags f.mode (startsLater before t)

/-- Checks 9 to 12 of R114, and the taken request. -/
def startRecipe (n : Fin 16) (r : Recipe) (f : StartFields) (b : Block) : Answer :=
  if r.usesSteam ∧ steamLock b = true then refuse .steamLocked b
  else if f.mode ≠ .now ∧ b.clock.valid = false then refuse .clockInvalid b
  else if tooFarAhead b f then refuse .range b
  else if f.mode = .readyBy ∧ r.endless = true then refuse .noDuration b
  else
    let b2 := takeRunStart n r f b
    answerOk (runStartBytes r f b b2) b2

/-- RUN START, by the checks of R114 in their order. -/
def runStartRequest (p : Payload) (b : Block) : Answer :=
  match startFields p with
  | .error st => refuse st b
  | .ok f =>
    match slotOf f.slot with
    | none => refuse .range b
    | some n =>
      if f.time.any (fun t => decide (86399 < t.sec)) then refuse .range b
      else if descaling b then refuse .descaleActive b
      else if b.run.state ≠ .idle then refuse .refusedState b
      else if b.climate.state = .fault ∨ b.gen.state = .fault then refuse .refusedState b
      else
        match slotView b n, (resident b n).recipe with
        | .empty, _ => refuse .emptySlot b
        | .storePending, _ | .erasePending, _ => refuse .busy b
        | .held, some r => startRecipe n r f b
        | .held, none => refuse .emptySlot b

/-- RUN START. -/
def execRunStart (p : Payload) (s : State) : Host.Outcome State Fault Refusal :=
  onBlock (request 0x40#8 (runStartRequest p)) s

/-! ### PAUSE, RESUME, ADVANCE, ABORT (R129 to R131) -/

/-- RUN PAUSE (R129). -/
def runPauseRequest (p : Payload) (b : Block) : Answer :=
  if p ≠ [] then refuse .badLength b
  else if b.run.state ≠ .running then refuse .refusedState b
  else answerOk [] (putHold { b.run.hold with pause := true } b)

/-- RUN PAUSE. -/
def execRunPause (p : Payload) (s : State) : Host.Outcome State Fault Refusal :=
  onBlock (request 0x41#8 (runPauseRequest p)) s

/-- PAUSE and POWER removed, POWER_RESTORED cleared with POWER (R129). -/
def resumeRun (b : Block) : Block :=
  let b := if b.run.hold.power then clearAttn .powerRestored b else b
  putHold { b.run.hold with pause := false, power := false } b

/-- RUN RESUME (R129). -/
def runResumeRequest (p : Payload) (b : Block) : Answer :=
  if p ≠ [] then refuse .badLength b
  else if b.run.state ≠ .running then refuse .refusedState b
  else if b.run.hold.pause ∨ b.run.hold.power then answerOk [] (resumeRun b)
  else refuse .refusedState b

/-- RUN RESUME. -/
def execRunResume (p : Payload) (s : State) : Host.Outcome State Fault Refusal :=
  onBlock (request 0x42#8 (runResumeRequest p)) s

/-- RUN ADVANCE (R130). -/
def runAdvanceRequest (p : Payload) (b : Block) : Answer :=
  if p ≠ [] then refuse .badLength b
  else if b.run.state ≠ .running then refuse .refusedState b
  else answerOk [] (endStep .skipped b)

/-- RUN ADVANCE. -/
def execRunAdvance (p : Payload) (s : State) : Host.Outcome State Fault Refusal :=
  onBlock (request 0x43#8 (runAdvanceRequest p)) s

/-- RUN ABORT (R131). -/
def runAbortRequest (p : Payload) (b : Block) : Answer :=
  if p ≠ [] then refuse .badLength b
  else if b.run.state = .idle then refuse .refusedState b
  else answerOk [] (endRun .aborted b)

/-- RUN ABORT. -/
def execRunAbort (p : Payload) (s : State) : Host.Outcome State Fault Refusal :=
  onBlock (request 0x44#8 (runAbortRequest p)) s

/-! ### The step timer (R119) -/

/-- One expiry of the step timer, while it runs and no restored step waits for the end of start-up
(R119, R138). -/
def stepExpiry (b : Block) : Block :=
  if b.run.state = .running ∧ b.run.stepTimer = true then stepSecond b else b

/-- STEP_TIMER_EXPIRY. -/
def execStepTimerExpiry (s : State) : Host.Outcome State Fault Refusal :=
  onBlock (event stepExpiry) s

/-! ### Reports (R135) -/

/-- REPORT TAKE (R135). -/
def reportTakeRequest (p : Payload) (b : Block) : Answer :=
  if p ≠ [] then refuse .badLength b
  else
    match b.reports.list with
    | [] => refuse .none b
    | r :: rs =>
      answerOk (flagByte b.reports.overflow ++ r.bytes)
        (setReports { b.reports with list := rs } b)

/-- REPORT TAKE. -/
def execReportTake (p : Payload) (s : State) : Host.Outcome State Fault Refusal :=
  onBlock (request 0x58#8 (reportTakeRequest p)) s

/-- REPORT CLEAR (R135). -/
def reportClearRequest (p : Payload) (b : Block) : Answer :=
  if p ≠ [] then refuse .badLength b
  else answerOk [] (setReports { list := [], overflow := false } b)

/-- REPORT CLEAR. -/
def execReportClear (p : Payload) (s : State) : Host.Outcome State Fault Refusal :=
  onBlock (request 0x59#8 (reportClearRequest p)) s

end Sys2Proof.Machine
end

