-- ==== Sys2Proof/Machine/StartUp.lean ====
section
/-! DEFINITION. A start (10.5): the records read and replaced, the state every block takes, the restore
decision of a checkpoint (R137, R138), and the end of start-up (R179). -/

namespace Sys2Proof.Machine

/-! ### Records read and replaced (R173, R178) -/

/-- The SCALE record of a part whose record failed its check (R61). -/
def ScaleRec.replaced (c : CavityClass) : ScaleRec := { scale := dueThreshold c, rw := 0, rs := 0 }

/-- The records as read, each failed one replaced (R173, R178); no write is in flight or pending. -/
def Store.readAtStart (v : Straps) (failed : List RecordName) (r : Store) : Store :=
  { settings := if failed.contains .settings then defaultSettings v.mains else r.settings
    scale := if failed.contains .scale then .replaced v.cavity else r.scale
    descale := if failed.contains .descale then .initial else r.descale
    checkpoint := if failed.contains .checkpoint then none else r.checkpoint
    slots :=
      Vector.ofFn fun n => if failed.contains (.slot n) then SlotRec.empty else r.slots.get n
    note := if failed.contains .startNote then ⟨[], false⟩ else r.note
    inFlight := none
    queue := [] }

/-- The checkpoint is discarded: by the start's cause, by the reset mark, or by a descale that resumes
(R97, R178). -/
def discards (cause : StartCause) (r : Store) : Bool :=
  decide (cause = .restartRequest) || decide (cause = .resetLine) || r.note.resetMark ||
    decide (r.descale.phase ≠ .idle)

/-- The store as the start leaves it: the START NOTE written back empty, a discarded checkpoint
written as none (R173, R178). -/
def Store.afterStart (cause : StartCause) (r : Store) : Store :=
  { r with
    note := ⟨[], false⟩
    checkpoint := if discards cause r then none else r.checkpoint }

/-- The start record (R177). -/
def startRecord (cause : StartCause) (x : StartInputs) (r : Store) : StartRecord :=
  { cause := cause
    replaced := allRecords.filter x.failed.contains
    lost := allRecords.filter r.note.lost.contains
    oscStopped := x.oscStopped
    discarded := discards cause r && r.checkpoint.isSome }

/-- The clock at a start (R171). -/
def Clock.atStart (stopped : Bool) (c : Clock) : Clock :=
  if stopped then { time := ⟨0, 0⟩, valid := false } else c

/-- A switch at a start: its raw level kept, its debounced state at the safe value (R165). -/
def Switch.restart (safe : Bool) (w : Switch) : Switch := .atStart w.raw safe

/-- The switches at a start (R165, R166). -/
def Switches.restart (w : Switches) : Switches :=
  { contactA := w.contactA.restart true, contactB := w.contactB.restart true
    tank := w.tank.restart false, plug := w.plug.restart false, eLow := w.eLow.restart false
    eNormal := w.eNormal.restart false, eHigh := w.eHigh.restart false, disagree := false }

/-- The life record at a start (R177, R179). -/
def Life.atStart (record : StartRecord) (now : Option ClockTime) : Life :=
  { settling := some 0, mainsLost := false, resetLine := false, flush := .none, note := .waiting
    noteMark := false, releaseDue := none, coldDue := none, power := .awake, wake := none
    start := record, startClock := now }

/-- Every block at its start state, from the records as read (table of R179); the queue of commands is
no part of the block. -/
def rebuild (cause : StartCause) (v : Straps) (pins : StrapPins) (x : StartInputs) (r : Store)
    (b : Block) : Block :=
  let clock := b.clock.atStart x.oscStopped
  { clock := clock
    settings := r.settings
    straps := v
    pins := pins
    life := .atStart (startRecord cause x r) clock.now?
    climate := .initial
    share := .initial
    gen := .initial r.scale
    fill := .initial
    drain := .initial
    descale := .initial r.descale
    run := .cleared
    runCounter := r.checkpoint.elim 0 Checkpoint.runId
    reports := { list := [], overflow := false }
    attn := .empty
    sensors := .initial
    switches := b.switches.restart
    store := r.afterStart cause
    link := .initial
    silence := .stopped }

/-- The budget clamped against the straps; a changed value queues a SETTINGS write (R27). -/
def clampStartBudget (b : Block) : Block :=
  let n := clampBudget b.straps.mains b.settings.budget
  if n = b.settings.budget then b
  else queueSettings (setSettings { b.settings with budget := n } b)

/-- A remainder at or above Kf goes to 0 and queues a SCALE write (R61). -/
def clampStartRemainder (b : Block) : Block :=
  if b.gen.account.rw < b.settings.kf then b
  else queueScale (setGen { b.gen with account := { b.gen.account with rw := 0 } } b)

/-- A retained descale: the generator in DESCALE, the source RUN (R97). The GEN row stays as the start
wrote it, 0 W at priority 2, until it is next written (log 36). -/
def placeDescale (b : Block) : Block :=
  if descaling b then
    setClimate { b.climate with source := .run } (setGen { b.gen with state := .descale } b)
  else b

/-! ### The restore decision (R137, R138) -/

/-- The three outcomes of the decision. -/
inductive Restore
  | refused
  | pending (r : Recipe)
  | running (r : Recipe)
deriving DecidableEq, Repr

/-- The slot still holds what the checkpoint's run was copied from (R137 case 2). -/
def matchingRecipe (k : Checkpoint) (b : Block) : Option Recipe :=
  let v := b.store.slots.get k.slot
  if v.count = k.writeCount then v.recipe else none

/-- The checkpoint waits for a start time still ahead (R137 case 3). -/
def startAhead (k : Checkpoint) (b : Block) : Bool :=
  !k.running && k.startTime.any fun t => t.after b.clock.time

/-- The checkpoint is recent enough (R137 case 4). -/
def withinWindow (k : Checkpoint) (b : Block) : Bool :=
  k.time.any fun t =>
    let d := b.clock.time.diff t
    decide (0 ≤ d) && decide (d ≤ (b.settings.resumeWindow * 60 : Nat))

/-- The decision, by the cases of R137 in their order. -/
def restoreDecision (k : Checkpoint) (b : Block) : Restore :=
  if b.clock.valid = false then .refused
  else
    match matchingRecipe k b with
    | none => .refused
    | some r =>
      if startAhead k b then .pending r
      else if withinWindow k b then .running r
      else .refused

/-- The report of a RUNNING checkpoint that is not restored (R137). -/
def lostReport (k : Checkpoint) : Report :=
  { runId := k.runId, stepIndex := k.stepIndex, reason := .powerLoss, active := k.active
    held := 0, doorCount := 0, firstDoor := none, lastDoor := none, core := none, heat := k.heat
    preheatLong := false, promptSkipped := false, powerLimited := false, steamShort := false
    steamShortSecs := 0 }

/-- A checkpoint that is not restored ends its run with POWER_LOSS (R137). -/
def loseRun (k : Checkpoint) (b : Block) : Block :=
  let b := if k.running then pushReport (lostReport k) b else b
  queueWrite (.checkpoint none) (raiseAttn .runEnded (.runEnd .powerLoss k.runId) b)

/-- The context a restored run takes from its checkpoint and the slot (R110, R138). -/
def restoredRun (k : Checkpoint) (r : Recipe) : Run :=
  { Run.cleared with
    recipe := some r, slot := some k.slot, writeCount := k.writeCount, runId := k.runId
    startMode := k.startMode }

/-- A run restored as PENDING (R138). -/
def restorePending (k : Checkpoint) (r : Recipe) (b : Block) : Block :=
  queueCheckpoint
    (setRun { restoredRun k r with state := .pending, startTime := k.startTime } b)

/-- How a run restored as RUNNING goes on at the end of start-up: the checkpoint's step and phase, or,
for a PENDING checkpoint whose start has passed, step 1 as a delayed start (R138, log 13). -/
def resumption (k : Checkpoint) : Resume :=
  match k.running, k.phase with
  | true, some p => .at p k.active k.heat
  | _, _ => .fresh

/-- A run restored as RUNNING, held by POWER (R138). DESIGN CHOICE (log 48): R138 leaves open what the
context holds from here to the step start at the end of start-up; the model fills in the checkpoint's
step index, phase, active seconds and heat units, or for a delayed start step 1 with no phase and zero
counts, and the CHECKPOINT write of the restore carries them. -/
def restoreRunning (k : Checkpoint) (r : Recipe) (b : Block) : Block :=
  let fresh := decide (resumption k = .fresh)
  let b :=
    setRun
      { restoredRun k r with
        state := .running
        stepIndex := if fresh then 1 else k.stepIndex
        phase := if fresh then none else k.phase
        step :=
          if fresh then .initial else { StepFields.initial with active := k.active, heat := k.heat }
        hold := { HoldSet.empty with power := true }
        delayed := fresh
        resume := some (resumption k) } b
  queueCheckpoint (raiseAttn .powerRestored .none b)

/-- The source of a restored run (R9, R138). -/
def takeSource (b : Block) : Block := setClimate { b.climate with source := .run } b

/-- The runner examines the CHECKPOINT record (R137). -/
def examineCheckpoint (b : Block) : Block :=
  match b.store.checkpoint with
  | none => b
  | some k =>
    match restoreDecision k b with
    | .refused => loseRun k b
    | .pending r => takeSource (restorePending k r b)
    | .running r => takeSource (restoreRunning k r b)

/-! ### The start event -/

/-- The start event of any cause (R177, R178): the owners take their start states and raise the
entries of the conditions that hold (R155). -/
def startUp (cause : StartCause) (v : Straps) (pins : StrapPins) (x : StartInputs) (b : Block) :
    Block :=
  let r := b.store.readAtStart v x.failed
  let b := rebuild cause v pins x r b
  let b := placeDescale (clampStartRemainder (clampStartBudget b))
  let b := followCondition .clockInvalid (!b.clock.valid) (followScale b)
  restartSilence (examineCheckpoint b)

/-- A cold start: the straps read, the cause by the oscillator-stop detector (R177). -/
def coldStart (x : ColdInputs) (b : Block) : Block :=
  startUp (if x.found.oscStopped then .powerOn else .mainsReturn) (strapsOf x.pins) x.pins x.found b

/-- A start by RESTART_REQUEST or the RESET line: the straps kept (R169, R177). -/
def warmStart (cause : StartCause) (x : StartInputs) (b : Block) : Block :=
  startUp cause b.straps b.pins x b

/-! ### The end of start-up (R179) -/

/-- A door that reads open and a cavity channel not yet valid, taken as the climate's reasons (R4). -/
def takeReasons (b : Block) : Block :=
  putSensorReason (!b.sensors.cavity.ok) (putDoorReason (doorOpen b) b)

/-- The interlocks and the level state taken from the first readings (R36, R38, R43). -/
def takeSwitches (b : Block) : Block :=
  let l := derivedLevel b.switches
  let b := setGen { b.gen with level := l } b
  let b := followInterlock .dryLevel (decide (l = .dry)) (followInterlock .door (doorOpen b) b)
  setSwitches { b.switches with disagree := contactsDisagree b } b

/-- SENSOR_FAULT for electrodes that read inconsistent, raised or cleared (R43). -/
def followLevelFault (b : Block) : Block :=
  if electrodesInconsistent b.switches then raiseSource .level b else clearSource .level b

/-- A restored run makes its step start (R138). -/
def resumeRunStep (b : Block) : Block :=
  match b.run.state, b.run.resume with
  | .running, some .fresh => startStep true (setRun { b.run with resume := none } b)
  | .running, some (.at p a h) => restoreStep p a h (setRun { b.run with resume := none } b)
  | _, _ => b

/-- DOOR_OPEN as the first readings give it (R144, R155). -/
def takeDoorOpen (b : Block) : Block := followCondition .doorOpen (doorOpenCondition b) b

/-- The end of start-up: the input-dependent start states, the resumed phase, the restored step, a run
that is already due, the window timer, and the link in HUNT (R33, R97, R138, R179, log 5, 12). -/
def endStartUp (b : Block) : Block :=
  let b := followLevelFault (takeReasons (takeSwitches b))
  let b := resumeRunStep (resumeDescale b)
  let b := takeDoorOpen (startIfDue b)
  let b := setShare { b.share with windowTimer := true } b
  setLife { b.life with settling := none } b

end Sys2Proof.Machine
end

