-- ==== Sys2Proof/Machine/SensorCommands.lean ====
section
/-! DEFINITION. Sensors and switches (chapter 9): the validity of a channel, the deliveries of one
sampling expiry, and the debounced changes. -/

namespace Sys2Proof.Machine

/-! ### One sample of one channel (R157 to R160) -/

/-- What a sample delivers to the channel's consumers (R158 to R160). -/
inductive Delivery
  | nothing
  | sample (v : Int)
  | becameValid (v : Int)
  | becameInvalid
  | startedInvalid
deriving DecidableEq, Repr

/-- A value appended to the window of four (R159). -/
def pushWindow (v : Int) (w : List Int) : List Int :=
  if w.length < 4 then w ++ [v] else w.tail ++ [v]

/-- A sample in VALID (R159). -/
def Analog.sampleValid (s : Option Int) (a : Analog) : Analog × Delivery :=
  match s with
  | some v =>
    ({ a with run := 0, last := some v, window := pushWindow v a.window }, .sample v)
  | none =>
    if a.run + 1 < 4 then ({ a with run := a.run + 1 }, .nothing)
    else ({ a with validity := .invalid, run := 0, window := [] }, .becameInvalid)

/-- A sample in INVALID (R160). -/
def Analog.sampleInvalid (s : Option Int) (a : Analog) : Analog × Delivery :=
  match s with
  | some v =>
    if a.run + 1 < 4 then
      ({ a with run := a.run + 1, window := pushWindow v a.window }, .nothing)
    else
      ({ a with validity := .valid, run := 0, last := some v, window := pushWindow v a.window },
        .becameValid v)
  | none => ({ a with run := 0, window := [] }, .nothing)

/-- A sample counted into the run and the window, as INVALID does; in STARTING the two hold what the
fourth sample needs (R158). -/
def Analog.gather (s : Option Int) (a : Analog) : Analog :=
  match s with
  | some v => { a with run := a.run + 1, window := pushWindow v a.window, taken := a.taken + 1 }
  | none => { a with run := 0, window := [], taken := a.taken + 1 }

/-- A sample in STARTING; the fourth decides (R158). -/
def Analog.sampleStarting (s : Option Int) (a : Analog) : Analog × Delivery :=
  let g := a.gather s
  if g.taken < 4 then (g, .nothing)
  else
    match s with
    | some v =>
      if 4 ≤ g.run then ({ g with validity := .valid, run := 0, last := some v }, .becameValid v)
      else ({ g with validity := .invalid }, .startedInvalid)
    | none => ({ g with validity := .invalid }, .startedInvalid)

/-- One sample of a channel. -/
def Analog.take (s : Option Int) (a : Analog) : Analog × Delivery :=
  match a.validity with
  | .starting => a.sampleStarting s
  | .valid => a.sampleValid s
  | .invalid => a.sampleInvalid s

/-! ### Deliveries (R162 to R164) -/

/-- The overtemperature test of a valid cavity sample (R22). -/
def cavitySample (v : Int) (b : Block) : Block :=
  if 3000 ≤ v ∧ b.climate.overtemp = false then overtemperature b else b

/-- The run's SENSOR hold follows the channel while RUNNING (R125). -/
def runSensor (v : Bool) (b : Block) : Block :=
  if b.run.state = .running then putHoldSensor v b else b

/-- What CAVITY delivers (R4, R22, R125, R162, R163). -/
def deliverCavity (d : Delivery) (b : Block) : Block :=
  match d with
  | .nothing => b
  | .sample v => cavitySample v b
  | .becameValid v =>
    cavitySample v (runSensor false (putSensorReason false (clearSource .cavity b)))
  | .becameInvalid => runSensor true (putSensorReason true (raiseSource .cavity b))
  | .startedInvalid => raiseSource .cavity b

/-- A valid GENERATOR sample: the dry-fire test, the generator's thresholds, the procedure's (R47, R50,
R54, R85, R89). -/
def wallSample (v : Int) (b : Block) : Block :=
  if 1600 ≤ v ∧ b.gen.dryFire = false then dryFireAll b
  else descaleWallSample v (genWallSample v b)

/-- What GENERATOR delivers (R53, R54, R89, R162, R163). -/
def deliverGenerator (d : Delivery) (b : Block) : Block :=
  match d with
  | .nothing => b
  | .sample v => wallSample v b
  | .becameValid v => wallSample v (genChannelValid (clearSource .generator b))
  | .becameInvalid => descaleWallInvalid (genChannelInvalid (raiseSource .generator b))
  | .startedInvalid => raiseSource .generator b

/-- Some probe channel is INVALID. -/
def probeInvalid (x : Sensors) : Bool := (probes x).any fun a => decide (a.validity = .invalid)

/-- What a probe channel delivers: its source alone (R164). -/
def deliverProbe (d : Delivery) (b : Block) : Block :=
  match d with
  | .nothing | .sample _ => b
  | .becameValid _ => if probeInvalid b.sensors then b else clearSource .probe b
  | .becameInvalid | .startedInvalid => raiseSource .probe b

/-- What MOISTURE delivers: its source alone (R162, R163). -/
def deliverMoisture (d : Delivery) (b : Block) : Block :=
  match d with
  | .nothing | .sample _ => b
  | .becameValid _ => clearSource .moisture b
  | .becameInvalid | .startedInvalid => raiseSource .moisture b

/-- The record of a channel replaced. -/
def setAnalog (c : AnalogChannel) (a : Analog) (b : Block) : Block :=
  match c with
  | .cavity => setSensors { b.sensors with cavity := a } b
  | .generator => setSensors { b.sensors with generator := a } b
  | .probe1 => setSensors { b.sensors with probe1 := a } b
  | .probe2 => setSensors { b.sensors with probe2 := a } b
  | .probe3 => setSensors { b.sensors with probe3 := a } b
  | .moisture => setSensors { b.sensors with moisture := a } b

/-- The record of a channel. -/
def analogOf (b : Block) : AnalogChannel → Analog
  | .cavity => b.sensors.cavity
  | .generator => b.sensors.generator
  | .probe1 => b.sensors.probe1
  | .probe2 => b.sensors.probe2
  | .probe3 => b.sensors.probe3
  | .moisture => b.sensors.moisture

/-- A delivery to the channel's consumers (R162). -/
def deliver (c : AnalogChannel) (d : Delivery) (b : Block) : Block :=
  match c with
  | .cavity => deliverCavity d b
  | .generator => deliverGenerator d b
  | .probe1 | .probe2 | .probe3 => deliverProbe d b
  | .moisture => deliverMoisture d b

/-- One channel sampled. -/
def sampleChannel (c : AnalogChannel) (s : Sample) (b : Block) : Block :=
  let r := (analogOf b c).take (inSpan c s)
  deliver c r.2 (setAnalog c r.1 b)

/-- The probe channels sampled, while the plug reads plugged (R157, R164). -/
def sampleProbes (x : Samples) (b : Block) : Block :=
  if probePlugged b then
    sampleChannel .probe3 x.probe3 (sampleChannel .probe2 x.probe2
      (sampleChannel .probe1 x.probe1 b))
  else b

/-- The six channels of one expiry, in the order of 9.1 (R157, log 6). -/
def takeSamples (x : Samples) (b : Block) : Block :=
  sampleChannel .moisture x.moisture
    (sampleProbes x
      (sampleChannel .generator x.generator (sampleChannel .cavity x.cavity b)))

/-- A sampling expiry of the settling interval is counted; the fourth ends start-up (R158, R179). -/
def countSettling (b : Block) : Block :=
  match b.life.settling with
  | none => b
  | some n =>
    if n + 1 < 4 then setLife { b.life with settling := some (n + 1) } b else endStartUp b

/-- One sampling expiry. -/
def sampling (x : Samples) (b : Block) : Block := countSettling (takeSamples x b)

/-- SAMPLING_EXPIRY. -/
def execSamplingExpiry (x : Samples) (s : State) : Host.Outcome State Fault Refusal :=
  onBlock (event (sampling x)) s

/-! ### Raw and debounced levels (R165) -/

/-- The record of a switch input. -/
def switchOf (w : Switches) : SwitchInput → Switch
  | .contact .a => w.contactA
  | .contact .b => w.contactB
  | .tank => w.tank
  | .plug => w.plug
  | .electrode .low => w.eLow
  | .electrode .normal => w.eNormal
  | .electrode .high => w.eHigh

/-- The record of a switch input replaced. -/
def setSwitch (i : SwitchInput) (x : Switch) (w : Switches) : Switches :=
  match i with
  | .contact .a => { w with contactA := x }
  | .contact .b => { w with contactB := x }
  | .tank => { w with tank := x }
  | .plug => { w with plug := x }
  | .electrode .low => { w with eLow := x }
  | .electrode .normal => { w with eNormal := x }
  | .electrode .high => { w with eHigh := x }

/-- A raw level that changes restarts the 50 ms of its debounce (R165). -/
def rawChange (i : SwitchInput) (level : Bool) (b : Block) : Block :=
  let x := switchOf b.switches i
  if x.raw = level then b
  else setSwitches (setSwitch i { x with raw := level, timer := some 0 } b.switches) b

/-- SWITCH_RAW_CHANGE, in every state of the part: a raw level is the input's own, and a start debounces
the one it finds (R165, log 5). -/
def execSwitchRawChange (i : SwitchInput) (level : Bool) (s : State) :
    Host.Outcome State Fault Refusal :=
  onBlock (rawChange i level) s

/-- The debounced state takes a level (R165). -/
def Switch.taken (level : Bool) (x : Switch) : Switch :=
  { x with deb := level, timer := none, unread := false }

/-- The debounced state of an input takes the level it has held for 50 ms (R165). -/
def setDebounced (i : SwitchInput) (level : Bool) (b : Block) : Block :=
  setSwitches (setSwitch i ((switchOf b.switches i).taken level) b.switches) b

/-- The 50 ms of an input complete at a level: nothing where the raw level is not, or no longer, that
one; the first reading of the settling interval without a change event; nothing where the state already
is so; else the change event (R165, log 5). -/
def debounced (i : SwitchInput) (level : Bool) (settle change : Block → Block) (b : Block) :
    Block :=
  let x := switchOf b.switches i
  if x.raw ≠ level then b
  else if b.life.settling.isSome && x.unread then settle (setDebounced i level b)
  else if x.deb = level then b
  else change (setDebounced i level b)

/-! ### Door (R166) -/

/-- The disagreement timer and the source DOOR at a debounced contact change (R166). -/
def followDisagreement (b : Block) : Block :=
  let d := contactsDisagree b
  let b := setSwitches { b.switches with disagree := d } b
  if d then b else clearSource .door b

/-- The door-open change event at its consumers (R4, R24, R36, R133, R166). -/
def doorOpened (b : Block) : Block :=
  let b := setClimate { b.climate with lampMark := false } (setInterlock .door b)
  runDoorOpened (putDoorReason true b)

/-- The door-close change event at its consumers (R4, R36, R121, R125, R166). -/
def doorClosed (b : Block) : Block := runDoorClosed (putDoorReason false (clearInterlock .door b))

/-- A debounced contact change: the wake, the disagreement timer, and the door event if
the door state changes (R166, R184). -/
def contactChange (wasOpen : Bool) (b : Block) : Block :=
  let b := followDisagreement (wake .door b)
  if wasOpen = doorOpen b then b
  else if doorOpen b then doorOpened b
  else doorClosed b

/-- A first reading of a contact, with the interlock and the reason kept in step (log 5). -/
def contactSettled (b : Block) : Block :=
  followInterlock .door (doorOpen b) (putDoorReason (doorOpen b) b)

/-- DOOR_CONTACT_CHANGE. -/
def execDoorContactChange (c : Contact) (isOpen : Bool) (s : State) :
    Host.Outcome State Fault Refusal :=
  onBlock
    (event fun b => debounced (.contact c) isOpen contactSettled (contactChange (doorOpen b)) b) s

/-- The disagreement timer reaches 1 s (R166), and stops (log 15). -/
def disagreementEnd (b : Block) : Block :=
  if b.switches.disagree then
    raiseSource .door (setSwitches { b.switches with disagree := false } b)
  else b

/-- DOOR_DISAGREEMENT_TIMEOUT. -/
def execDoorDisagreementTimeout (s : State) : Host.Outcome State Fault Refusal :=
  onBlock (event disagreementEnd) s

/-! ### Tank (R167) -/

/-- The tank-insertion change event at its consumers (R52, R77, R88, R92, log 6). -/
def tankInserted (b : Block) : Block :=
  let b := clearAttn .tankMissing (wake .tank b)
  let b := setChannel .drain b.drain.resume (setChannel .fill b.fill.resume b)
  retryDescale (moveTankCycle .insertion (retryWater b))

/-- TANK_INSERTION. -/
def execTankInsertion (s : State) : Host.Outcome State Fault Refusal :=
  onBlock (event (debounced .tank true id tankInserted)) s

/-- The tank-removal change event at its consumers (R76, R92). -/
def tankRemoved (b : Block) : Block :=
  let b := wake .tank b
  moveTankCycle .removal (setChannel .drain b.drain.pause (setChannel .fill b.fill.pause b))

/-- TANK_REMOVAL. -/
def execTankRemoval (s : State) : Host.Outcome State Fault Refusal :=
  onBlock (event (debounced .tank false id tankRemoved)) s

/-! ### Probe plug (R164, R167) -/

/-- The three probe channels changed alike. -/
def mapProbes (f : Analog → Analog) (b : Block) : Block :=
  setSensors { b.sensors with
      probe1 := f b.sensors.probe1, probe2 := f b.sensors.probe2, probe3 := f b.sensors.probe3 } b

/-- The probe channels enter STARTING (R164). -/
def startProbes (b : Block) : Block := mapProbes (fun _ => .starting) b

/-- A channel made INVALID by the unplug; its last value stays for display (R164, log 26). -/
def Analog.unplugged (a : Analog) : Analog :=
  { a with validity := .invalid, run := 0, window := [] }

/-- PLUG_IN. -/
def execPlugIn (s : State) : Host.Outcome State Fault Refusal :=
  onBlock (event (debounced .plug true id fun b => startProbes (wake .probe b))) s

/-- The unplug change event (R164). -/
def probeUnplugged (b : Block) : Block :=
  clearSource .probe (mapProbes Analog.unplugged (wake .probe b))

/-- UNPLUG. -/
def execUnplug (s : State) : Host.Outcome State Fault Refusal :=
  onBlock (event (debounced .plug false id probeUnplugged)) s

/-! ### Electrodes (R43, R167) -/

/-- A first reading of an electrode, with the level state and its interlock kept in step (log 5). -/
def electrodeSettled (b : Block) : Block :=
  let l := derivedLevel b.switches
  followInterlock .dryLevel (decide (l = .dry)) (setGen { b.gen with level := l } b)

/-- A debounced electrode change: the source LEVEL, the level state derived anew (R43). -/
def electrodeChanged (b : Block) : Block :=
  let b := followLevelFault b
  levelChange (derivedLevel b.switches) b

/-- ELECTRODE_CHANGE. -/
def execElectrodeChange (e : Electrode) (wet : Bool) (s : State) :
    Host.Outcome State Fault Refusal :=
  onBlock (event (debounced (.electrode e) wet electrodeSettled electrodeChanged)) s

end Sys2Proof.Machine
end

