-- ==== Sys2Proof/Machine/StatusReply.lean ====
section
/-! DEFINITION. The 206 bytes of the STATUS reply (11.5), block by block. -/

namespace Sys2Proof.Machine

/-- Offsets 1 to 8: the clock, the power state, the wake cause (R185). -/
def clockStatus (b : Block) : Payload :=
  u16 b.clock.time.day ++ u24 b.clock.time.sec ++ flagByte b.clock.valid ++
    u8 b.life.power.code ++ u8? (b.life.wake.map WakeCause.code)

/-- Offsets 9 to 16: the start record (R177, R185). -/
def startStatus (r : StartRecord) : Payload :=
  u8 r.cause.code ++ recordSet r.replaced ++ recordSet r.lost ++
    setByte [r.oscStopped, r.discarded]

/-- Offsets 17 to 20: the write in flight and the pending ones (R185). -/
def storeStatus (s : Store) : Payload :=
  u8 (s.inFlight.elim 0 fun w => recordPosition w.record + 1) ++ recordSet (s.queue.map Write.record)

/-- The output as STATUS shows it: 0 in OFF and FAULT (R25). -/
def shownOutput (c : Climate) : Nat := if c.state.works then c.u else 0

/-- Offsets 21 to 35: the climate (R25). -/
def climateStatus (b : Block) : Payload :=
  let c := b.climate
  u8 c.state.code ++
    setByte [c.reasons.door, c.reasons.runHold, c.reasons.silent, c.reasons.sensor] ++
    u8 c.mode.code ++ i16 c.ts ++ u8 c.ms ++ u8 c.fan ++ u8 c.bias.code ++ u8 c.source.code ++
    u16 (shownOutput c) ++ temp? (measuredTm b) ++
    setByte [b.sensors.cavity.ok, c.overtemp, c.openLoop, fanRunning b, lampOn b] ++
    u8 c.flap.code

/-- The eight bytes of one heating load (R42). -/
def loadStatus (q : Row) (grant : Nat) (o : LoadOut) : Payload :=
  let l := o.locks
  u16 q.watts ++ u8 q.prio ++ u16 grant ++ u16 o.applied ++
    setByte [l.door, l.overtemp, l.dryFire, l.dryLevel, l.standby, l.mainsLoss]

/-- Offsets 36 to 73: power sharing (R42). -/
def shareStatus (b : Block) : Payload :=
  let s := b.share
  u16 b.settings.budget ++ u8 b.settings.shed ++
    u8 (b.straps.cavity.code + 2 * b.straps.mains.code) ++ u16 s.fixed ++
    loadStatus s.requests.ring s.grants.ring s.loads.ring ++
    loadStatus s.requests.top s.grants.top s.loads.top ++
    loadStatus s.requests.bottom s.grants.bottom s.loads.bottom ++
    loadStatus s.requests.gen s.grants.gen s.loads.gen

/-- Offsets 74 to 85: the generator (R63). -/
def generatorStatus (b : Block) : Payload :=
  let g := b.gen
  u8 g.state.code ++ u8 g.level.code ++ temp? b.sensors.generator.last ++ u16 g.demand ++
    u8 g.prio ++
    setByte [b.sensors.generator.ok, g.dryFire, g.serviceDrain, g.descaleTake, lockByScale b,
      b.descale.kept.rinseOwed] ++
    u32 g.account.scale

/-- The pause elapsed in whole seconds while PAUSED (R77, R81), else 0 (log 37). -/
def shownPause (r : ChannelRec) : Nat := if r.state = .paused then r.pauseMs / 1000 else 0

/-- The fourteen bytes of one channel (R81); `flow` is 0 on DRAIN. -/
def channelStatus (flow : Nat) (r : ChannelRec) : Payload :=
  u8 r.state.code ++ u8 r.owner.code ++ u8 r.mode.code ++ u8? (r.target.map targetCode) ++
    u16 r.limit ++ u16 r.strokes ++ u8? r.runOn ++ u16 flow ++ u8 (shownPause r) ++
    u8? (r.endReason.map EndReason.code) ++ u8? (r.levelAtEnd.map Level.code)

/-- The tank cycle mark while the phase is REFILL_CLEAN (R98), else NONE (log 37). -/
def shownTankCycle (d : Descale) : TankCycle :=
  if d.kept.phase = .refillClean then d.tankCycle else .none

/-- Offsets 114 to 121: the descaling procedure (R98). -/
def descaleStatus (b : Block) : Payload :=
  let d := b.descale
  let k := d.kept
  u8 k.phase.code ++ u8 k.minutes ++ u8 d.seconds ++ u8 (soakDuration b.straps.cavity) ++
    u8 k.rinses ++ setByte [k.rinseOwed, k.soakDone, k.aborted, k.agentRedo] ++
    u8? (d.wait.map WaterWait.code) ++ u8 (shownTankCycle d).code

/-- The hold set as flags, DOOR bit 0 to POWER bit 6 (11.5). -/
def HoldSet.flags (h : HoldSet) : List Bool :=
  [h.door, h.pause, h.steam, h.probe, h.silent, h.sensor, h.power]

/-- The start time while PENDING (R139). -/
def shownStart (r : Run) : Option ClockTime := if r.state = .pending then r.startTime else none

/-- Offsets 122 to 136: the run (R139). -/
def runStatus (r : Run) : Payload :=
  u8 r.state.code ++ u8 r.runId ++ u8? (r.slot.map Fin.val) ++ u16 r.writeCount ++
    u8 r.startMode.code ++ clockTime? (shownStart r) ++ u8 r.stepIndex ++
    u8 (r.recipe.elim 0 fun x => x.steps.length) ++ u8? (r.phase.map StepPhase.code) ++
    setByte r.hold.flags

/-- Offsets 137 to 163: the step's counts and times (R139). -/
def stepStatus (f : StepFields) : Payload :=
  u16 f.active ++ u16 f.held ++ u16 f.preheat ++ u32 f.heat ++ u8 f.doorCount ++
    clockTime? f.firstDoor ++ clockTime? f.lastDoor ++ u16 f.doorOpen ++ u16 f.steamShort ++
    u16 f.powerLimited

/-- The door cycle while in PROMPT (R139), else NONE (log 37). -/
def shownDoorCycle (r : Run) : DoorCycle :=
  if r.phase = some .prompt then r.step.doorCycle else .none

/-- Offsets 164 to 168: the step flags, the door cycle, the report queue, the run counter (R139). -/
def reportStatus (b : Block) : Payload :=
  setByte [b.run.step.preheatLong, b.run.step.promptSkipped] ++ u8 (shownDoorCycle b.run).code ++
    u8 b.reports.list.length ++ flagByte b.reports.overflow ++ u8 b.runCounter

/-- The number of entries in a state. -/
def Attn.countIn (a : Attn) (st : EntryState) : Nat :=
  (a.entries.filter fun e => e.state = st).length

/-- Offsets 169 to 179: the attention list (R156). -/
def attentionStatus (b : Block) : Payload :=
  let a := b.attn
  u8 a.entries.length ++ u8 (a.countIn .pending) ++ u8 (a.countIn .inService) ++
    u8 (a.countIn .acknowledged) ++ u8 a.chain.length ++
    u8 (a.chain.getLast?.elim 0 AttnKind.code) ++ maskBytes a.mask ++ u8 a.threshold ++
    flagByte (attnDriven b)

/-- The three bytes of a temperature channel (R170). -/
def analogStatus (a : Analog) : Payload := u8 a.validity.code ++ temp? a.last

/-- A moisture value in two bytes, absent as 0xFFFF (R194). -/
def moistureWord? : Option Int → Payload
  | some v => u16 v.toNat
  | none => u16 0xFFFF

/-- Offsets 180 to 197: the six channels (R170). -/
def channelsStatus (x : Sensors) : Payload :=
  analogStatus x.cavity ++ analogStatus x.generator ++ analogStatus x.probe1 ++
    analogStatus x.probe2 ++ analogStatus x.probe3 ++
    (u8 x.moisture.validity.code ++ moistureWord? x.moisture.last)

/-- Offsets 198 to 204: the readings and the switches (R170). -/
def readingsStatus (b : Block) : Payload :=
  let w := b.switches
  temp? (cavityValue b) ++ u8? ((moistureReading b).map Int.toNat) ++ temp? (coreTemperature b) ++
    setByte [w.contactA.deb, w.contactB.deb, doorOpen b, w.disagree, w.tank.deb, w.plug.deb] ++
    setByte [w.eLow.deb, w.eNormal.deb, w.eHigh.deb]

/-- Offsets 205 and 206: the silence timer's seconds and the mark (R193). -/
def silenceStatus (q : Silence) : Payload :=
  u8? (if q.running then some (q.ms / 1000) else none) ++ flagByte q.mark

/-- The 206 bytes of the STATUS reply after the status byte (R192). -/
def statusBytes (b : Block) : Payload :=
  clockStatus b ++ startStatus b.life.start ++ storeStatus b.store ++ climateStatus b ++
    shareStatus b ++ generatorStatus b ++ channelStatus b.fill.flow b.fill ++
    channelStatus 0 b.drain ++ descaleStatus b ++ runStatus b.run ++ stepStatus b.run.step ++
    reportStatus b ++ attentionStatus b ++ channelsStatus b.sensors ++ readingsStatus b ++
    silenceStatus b.silence

end Sys2Proof.Machine
end

