-- ==== Sys2Proof/Machine/PowerCommands.lean ====
section
/-! DEFINITION. Mains power sharing (chapter 2): BUDGET SET, the allocation walk, the firing of
half-cycles. -/

namespace Sys2Proof.Machine

/-! ### BUDGET SET (R29) -/

/-- BUDGET SET: clamped, stored, a SETTINGS write queued (R27 to R29). -/
def budgetSetRequest (p : Payload) (b : Block) : Answer :=
  if p.length ≠ 3 then refuse .badLength b
  else
    let budget := clampBudget b.straps.mains (wordAt p 0)
    let shed := min 7 (byteAt p 2)
    let b := setSettings { b.settings with budget := budget, shed := shed } b
    answerOk (u16 budget ++ u8 shed) (queueSettings b)

/-- BUDGET SET. -/
def execBudgetSet (p : Payload) (s : State) : Host.Outcome State Fault Refusal :=
  onBlock (request 0x18#8 (budgetSetRequest p)) s

/-! ### The walk (R34) -/

/-- The watts asked at one priority level. -/
def levelSum (rows : PerLoad Row) (l : Nat) : Nat :=
  (if rows.ring.prio = l then rows.ring.watts else 0) +
  (if rows.top.prio = l then rows.top.watts else 0) +
  (if rows.bottom.prio = l then rows.bottom.watts else 0) +
  (if rows.gen.prio = l then rows.gen.watts else 0)

/-- The grants of the rows at level `l` by a function of their request, those of the other rows as
`rest` gives them. -/
def grantLevel (rows : PerLoad Row) (l : Nat) (f : Nat → Nat) (rest : PerLoad Nat) : PerLoad Nat :=
  { ring := if rows.ring.prio = l then f rows.ring.watts else rest.ring
    top := if rows.top.prio = l then f rows.top.watts else rest.top
    bottom := if rows.bottom.prio = l then f rows.bottom.watts else rest.bottom
    gen := if rows.gen.prio = l then f rows.gen.watts else rest.gen }

/-- No watts for any load. -/
def noGrants : PerLoad Nat := ⟨0, 0, 0, 0⟩

/-- The walk over the levels, in turn, with `r` watts left (R34 step 3). -/
def walk (rows : PerLoad Row) : List Nat → Nat → PerLoad Nat
  | [], _ => noGrants
  | l :: ls, r =>
    if levelSum rows l ≤ r then grantLevel rows l id (walk rows ls (r - levelSum rows l))
    else grantLevel rows l (fun w => w * r / levelSum rows l) noGrants

/-- The grants of a window: the walk over levels 0 to L with max(0, B − F) watts (R34). -/
def allocate (budget fixed shed : Nat) (rows : PerLoad Row) : PerLoad Nat :=
  walk rows (List.range (shed + 1)) (budget - fixed)

/-! ### The window (R32, R33, R35, R40, R41) -/

/-- The applied power of the window that ends (R41). -/
def LoadOut.appliedPower (rated : Nat) (o : LoadOut) : Nat :=
  if o.counted = 0 then 0 else rated * o.fired / o.counted

/-- A load's output stage at a window expiry: applied power taken, counts and accumulator 0 (R40,
R41). -/
def LoadOut.closeWindow (rated : Nat) (o : LoadOut) : LoadOut :=
  { o with applied := o.appliedPower rated, counted := 0, fired := 0, acc := 0 }

/-- One expiry of the allocation window timer (R32 to R35, R40, R41). -/
def windowExpiry (b : Block) : Block :=
  if b.share.windowTimer then
    let f := fixedAllowance b
    setShare { b.share with
        fixed := f
        grants := allocate b.settings.budget f b.settings.shed b.share.requests
        loads :=
          b.share.loads.mapWith fun l o => o.closeWindow ((rating b.straps.cavity).get l) } b
  else b

/-- ALLOCATION_WINDOW_EXPIRY. -/
def execAllocationWindowExpiry (s : State) : Host.Outcome State Fault Refusal :=
  onBlock (event windowExpiry) s

/-! ### Half-cycles (R40, R41) -/

/-- One half-cycle of a load: fired, or not fired with the accumulator grown, or held by an interlock
(R40); it is counted while a window runs (R41). -/
def LoadOut.halfCycle (inWindow : Bool) (rated grant : Nat) (o : LoadOut) : LoadOut :=
  let o := { o with counted := if inWindow then o.counted + 1 else o.counted }
  if o.locks.isClear then
    if rated ≤ o.acc + grant then
      { o with acc := o.acc + grant - rated, fired := o.fired + 1, firing := true }
    else { o with acc := o.acc + grant, firing := false }
  else { o with firing := false }

/-- An accepted zero crossing, as the output stage takes it (R40, R168). -/
def halfCycle (b : Block) : Block :=
  setShare { b.share with
      loads :=
        b.share.loads.mapWith fun l o =>
          o.halfCycle b.share.windowTimer ((rating b.straps.cavity).get l)
            (b.share.grants.get l) } b

end Sys2Proof.Machine
end

