-- ==== Sys2Proof/Machine/StoreCommands.lean ====
section
/-! DEFINITION. The clock, the settings, the retained store, the starts, the loss of supply and the RESET
line (chapter 10). -/

namespace Sys2Proof.Machine

/-! ### Clock (R171, R172) -/

/-- The clock one second on (R171). -/
def advanceClock (b : Block) : Block :=
  setClock { b.clock with time := b.clock.time.next } b

/-- An advance: the clock alone, and, in a live part past start-up, the event that can make a PENDING
run due (R117, R171, R181, log 12). -/
def clockAdvance (b : Block) : Block :=
  let b := advanceClock b
  if receiving b then finishEvent b (startIfDue b) else b

/-- CLOCK_ADVANCE. -/
def execClockAdvance (s : State) : Host.Outcome State Fault Refusal := onBlock clockAdvance s

/-- The five bytes of a clock time that is present (R194). -/
def clockBytes (t : ClockTime) : Payload := u16 t.day ++ u24 t.sec

/-- The clock set and declared valid; a PENDING run is examined (R117, R172). -/
def takeClockSet (t : ClockTime) (b : Block) : Block :=
  startIfDue (clearAttn .clockInvalid (setClock { time := t, valid := true } b))

/-- CLOCK SET (R172); the reply carries the day and the second of day, not the flag that the request sets
(DESIGN CHOICE, log 47). -/
def clockSetRequest (p : Payload) (b : Block) : Answer :=
  if p.length ≠ 5 then refuse .badLength b
  else if 86399 < (clockAt p 0).sec then refuse .range b
  else answerOk (clockBytes (clockAt p 0)) (takeClockSet (clockAt p 0) b)

/-- CLOCK SET. -/
def execClockSet (p : Payload) (s : State) : Host.Outcome State Fault Refusal :=
  onBlock (request 0x60#8 (clockSetRequest p)) s

/-- CLOCK READ (R172). -/
def clockReadRequest (p : Payload) (b : Block) : Answer :=
  if p ≠ [] then refuse .badLength b
  else answerOk (clockBytes b.clock.time ++ flagByte b.clock.valid) b

/-- CLOCK READ. -/
def execClockRead (p : Payload) (s : State) : Host.Outcome State Fault Refusal :=
  onBlock (request 0x61#8 (clockReadRequest p)) s

/-! ### Settings (R60, R75, R176) -/

/-- A Kf that differs sets r_w to 0 and queues a SCALE write (R60). -/
def applyKf (new : Nat) (b : Block) : Block :=
  if new = b.settings.kf then b
  else queueScale (setGen { b.gen with account := { b.gen.account with rw := 0 } } b)

/-- A prescale that differs sets the divider to 0 (R75). -/
def applyPrescale (new : Nat) (b : Block) : Block :=
  if new = b.settings.prescale then b else setChannel .fill { b.fill with divider := 0 } b

/-- A taken SETTINGS WRITE (R176). -/
def takeSettings (v : Settings) (b : Block) : Block :=
  queueSettings (setSettings v (applyPrescale v.prescale (applyKf v.kf b)))

/-- SETTINGS WRITE, by the checks of R176 in their order. -/
def settingsWriteRequest (p : Payload) (b : Block) : Answer :=
  if p.length ≠ 14 then refuse .badLength b
  else
    match settingsFields b.straps.mains p with
    | none => refuse .invalid b
    | some v => answerOk (settingsBytes v) (takeSettings v b)

/-- SETTINGS WRITE. -/
def execSettingsWrite (p : Payload) (s : State) : Host.Outcome State Fault Refusal :=
  onBlock (request 0x68#8 (settingsWriteRequest p)) s

/-- SETTINGS READ (R176). -/
def settingsReadRequest (p : Payload) (b : Block) : Answer :=
  if p ≠ [] then refuse .badLength b else answerOk (settingsBytes b.settings) b

/-- SETTINGS READ. -/
def execSettingsRead (p : Payload) (s : State) : Host.Outcome State Fault Refusal :=
  onBlock (request 0x69#8 (settingsReadRequest p)) s

/-! ### Retained writes (R105, R174, R175) -/

/-- A completed write's record holds its contents (R105, R174). -/
def Store.commit (w : Write) (r : Store) : Store :=
  match w with
  | .settings v => { r with settings := v }
  | .scale v => { r with scale := v }
  | .descale v => { r with descale := v }
  | .checkpoint v => { r with checkpoint := v }
  | .slot n v => { r with slots := r.slots.set n.val v n.isLt }
  | .startNote v => { r with note := v }

/-- The write is of the START NOTE. -/
def Write.isNote : Write → Bool
  | .startNote _ => true
  | _ => false

/-- A release of the RESET line that waited for the note makes its start (R181). -/
def startIfReleased (b : Block) : Block :=
  match b.life.releaseDue with
  | some x => if b.life.mainsLost then b else warmStart .resetLine x b
  | none => b

/-- The write in flight completes; the next is taken into flight, or the flush ends (R174, R175, R181). -/
def writeComplete (b : Block) : Block :=
  match b.store.inFlight with
  | none => b
  | some w =>
    let b := setStore { b.store.commit w with inFlight := none } b
    if w.isNote then startIfReleased (setLife { b.life with note := .written } b)
    else serveStore b

/-- RETAINED_WRITE_COMPLETE. -/
def execRetainedWriteComplete (s : State) : Host.Outcome State Fault Refusal :=
  onBlock writeComplete s

/-! ### Loss of supply (R168, R175) -/

/-- A reply owed or being sent is dropped with the supply or under the RESET line (R188). -/
def stopLink (b : Block) : Block := setLink { b.link with owed := none, restart := false } b

/-- The allocation and climate timers stopped (R175). -/
def stopTimers (b : Block) : Block :=
  setClimate { b.climate with periodTimer := false }
    (setShare { b.share with windowTimer := false } b)

/-- The mains-loss event: loads off, transfers ended, the flush begun; under the RESET line its own flush
goes on (R175, R181), and so it does after a release that still waits for its note, where the spec gives
no rule: that release makes no start, the next start being a cold one (DESIGN CHOICE, log 45). -/
def loseMains (b : Block) : Block :=
  if b.life.mainsLost then b
  else if b.life.flush = .resetLine then
    setLife { b.life with mainsLost := true, releaseDue := none } b
  else
    let b := stopTimers (stopLink (shutDown .interlock b))
    serveStore
      (setLife
        { b.life with mainsLost := true, flush := .mains, note := .waiting, noteMark := false } b)

/-- MAINS_LOSS. -/
def execMainsLoss (s : State) : Host.Outcome State Fault Refusal := onBlock loseMains s

/-- A cold start now, or, with the RESET line asserted, at its release (R181). -/
def coldStartOrWait (x : ColdInputs) (b : Block) : Block :=
  if b.life.resetLine then setLife { b.life with coldDue := some x } b else coldStart x b

/-- What a start by returning crossings finds: the supply never failed, so the clock ran, and the
records and the pins are as they were (R175, log 19). -/
def crossingInputs (b : Block) : ColdInputs :=
  { pins := b.pins, found := { oscStopped := false, failed := [] } }

/-- The start by returning crossings. While the RESET line holds the start back, a start that waits for
the release already, by a supply that came up, keeps what it found (R175, R177, R181). -/
def crossingStart (b : Block) : Block :=
  if b.life.resetLine ∧ b.life.coldDue.isSome then b else coldStartOrWait (crossingInputs b) b

/-- An accepted zero crossing: a half-cycle of a live part; after a mains loss, the start once the note
is written (R40, R168, R175). -/
def zeroCrossing (b : Block) : Block :=
  if b.life.mainsLost then
    if b.life.note = .written then crossingStart b else b
  else event halfCycle b

/-- ZERO_CROSSING. -/
def execZeroCrossing (s : State) : Host.Outcome State Fault Refusal := onBlock zeroCrossing s

/-! ### Starts (R177 to R181) -/

/-- A flush that ends with the START NOTE is still running (R175, R181). -/
def flushing (b : Block) : Bool := b.life.flush.writesNote && decide (b.life.note ≠ .written)

/-- The supply comes up (R177, log 20). -/
def supplyUp (x : ColdInputs) (b : Block) : Block :=
  if flushing b then b else coldStartOrWait x b

/-- COLD_START. -/
def execColdStart (x : ColdInputs) (s : State) : Host.Outcome State Fault Refusal :=
  onBlock (supplyUp x) s

/-- The flush of a RESTART has completed every write (R180). -/
def restartFlushed (b : Block) : Bool :=
  decide (b.life.flush = .restart) && b.store.inFlight.isNone && b.store.queue.isEmpty

/-- The start of a taken RESTART (R180). -/
def restartStart (x : StartInputs) (b : Block) : Block :=
  if restartFlushed b && !b.life.mainsLost && !b.life.resetLine then
    warmStart .restartRequest x b
  else b

/-- RESTART_REQUEST_START. -/
def execRestartRequestStart (x : StartInputs) (s : State) : Host.Outcome State Fault Refusal :=
  onBlock (restartStart x) s

/-- The RESET line asserted on a running part: its flush begins, with the reset mark (R181). -/
def beginReset (b : Block) : Block :=
  let b := stopLink (shutDown .interlock b)
  serveStore
    (setLife
      { b.life with
        resetLine := true, flush := .resetLine, note := .waiting, noteMark := true } b)

/-- The event that asserts the RESET line (R181, log 21). -/
def assertReset (b : Block) : Block :=
  if b.life.resetLine then b
  else if b.life.mainsLost then
    let mark := b.life.noteMark || decide (b.life.note = .waiting)
    setLife { b.life with resetLine := true, noteMark := mark } b
  else if b.life.flush = .resetLine then
    setLife { b.life with resetLine := true, releaseDue := none } b
  else beginReset b

/-- RESET_LINE_ASSERT. -/
def execResetLineAssert (s : State) : Host.Outcome State Fault Refusal := onBlock assertReset s

/-- The event that releases the RESET line: the start it makes, or the start that waits for the flush or
for the supply (R181). -/
def releaseReset (x : StartInputs) (b : Block) : Block :=
  if !b.life.resetLine then b
  else
    let b := setLife { b.life with resetLine := false } b
    match b.life.coldDue with
    | some c => coldStart c b
    | none =>
      if b.life.mainsLost then b
      else if b.life.note = .written then warmStart .resetLine x b
      else setLife { b.life with releaseDue := some x } b

/-- RESET_LINE_RELEASE. -/
def execResetLineRelease (x : StartInputs) (s : State) : Host.Outcome State Fault Refusal :=
  onBlock (releaseReset x) s

end Sys2Proof.Machine
end

