-- ==== Sys2Proof/WellFormed.lean ====
section
/-! DEFINITION. Which commands are well formed: what the environment can deliver at all. -/

namespace Sys2Proof

/-- The KIND codes of the catalogue (R189). -/
def catalogueKinds : List Byte :=
  [0x01#8, 0x02#8, 0x03#8, 0x04#8, 0x10#8, 0x11#8, 0x18#8, 0x20#8, 0x21#8, 0x28#8, 0x29#8,
   0x30#8, 0x31#8, 0x32#8, 0x33#8, 0x40#8, 0x41#8, 0x42#8, 0x43#8, 0x44#8, 0x50#8, 0x51#8,
   0x52#8, 0x53#8, 0x58#8, 0x59#8, 0x60#8, 0x61#8, 0x68#8, 0x69#8]

/-- The payload of a frame holds 0 to 232 bytes (R186). -/
def wfPayload (p : Payload) : Bool := p.length ≤ 232

/-- The value range of an analog channel (9.1). -/
def sampleRange : AnalogChannel → Int × Int
  | .cavity => (-300, 4500)
  | .generator => (-300, 2500)
  | .probe1 | .probe2 | .probe3 => (-300, 1500)
  | .moisture => (0, 100)

/-- A conversion code is 0 to 4095, and a converted value lies in its channel's range (R157). -/
def wfSample (c : AnalogChannel) : Sample → Bool
  | .code n => n ≤ 4095
  | .value v => (sampleRange c).1 ≤ v ∧ v ≤ (sampleRange c).2
  | .out => true

/-- Every sample of a sampling expiry is one its channel can give. -/
def wfSamples (x : Samples) : Bool :=
  wfSample .cavity x.cavity && wfSample .generator x.generator && wfSample .probe1 x.probe1 &&
  wfSample .probe2 x.probe2 && wfSample .probe3 x.probe3 && wfSample .moisture x.moisture

/-- The set of failed records names each record once. -/
def wfStart (x : StartInputs) : Bool := decide x.failed.Nodup

/-- A well-formed command. -/
def Instr.wf : Instr → Bool
  | .ident p | .status p | .restart p | .standby p | .climateSet p | .climateOff p | .budgetSet p
  | .generatorDrain p | .generatorClear p | .descaleBegin p | .descaleAbort p | .recipeStore p
  | .recipeRead p | .recipeErase p | .recipeList p | .runStart p | .runPause p | .runResume p
  | .runAdvance p | .runAbort p | .attentionPeek p | .attentionTake p | .attentionClose p
  | .attentionMask p | .reportTake p | .reportClear p | .clockSet p | .clockRead p
  | .settingsWrite p | .settingsRead p => wfPayload p
  | .unknownKind k p => wfPayload p && !catalogueKinds.contains k
  | .samplingExpiry x => wfSamples x
  | .coldStart x => wfStart x.found
  | .restartRequestStart x | .resetLineRelease x => wfStart x
  | .frameCheckFailed | .frameDroppedReplyOwed | .replySent | .interbyteGapTimeout | .lineBreak
  | .badStopBit | .lenOutOfRange | .standbyByteReceived _ | .silence5s | .silence120s
  | .controlPeriodExpiry | .flapTravelEnd | .allocationWindowExpiry | .zeroCrossing | .mainsLoss
  | .switchRawChange _ _ | .doorContactChange _ _ | .doorDisagreementTimeout | .tankInsertion
  | .tankRemoval | .plugIn | .unplug | .electrodeChange _ _ | .pacingExpiry _ | .flowEdge _
  | .pauseTimeout _ | .soakTimerExpiry | .rinseHoldExpiry | .stepTimerExpiry | .clockAdvance
  | .retainedWriteComplete | .resetLineAssert | .byteReceived _ => true

end Sys2Proof
end

