-- ==== Sys2Proof/Machine/LinkCommands.lean ====
section
/-! DEFINITION. The message link (chapter 11): its own requests, the receiver, the drops, the sent reply,
host silence; and STANDBY. -/

namespace Sys2Proof.Machine

/-! ### IDENT, STATUS, RESTART, STANDBY -/

/-- The design revision, 1 to 255 (R191, log 23). -/
def designRevision : Nat := Config.designRevisionLess1.val + 1

/-- The eight bytes of IDENT (R191). -/
def identBytes (v : Straps) : Payload :=
  u16 28 ++ u8 designRevision ++ u8 1 ++ u8 v.cavity.code ++ u8 v.mains.code ++ u16 232

/-- IDENT (R191). -/
def identRequest (p : Payload) (b : Block) : Answer :=
  if p ≠ [] then refuse .badLength b else answerOk (identBytes b.straps) b

/-- IDENT. -/
def execIdent (p : Payload) (s : State) : Host.Outcome State Fault Refusal :=
  onBlock (request 0x01#8 (identRequest p)) s

/-- STATUS (R192). -/
def statusRequest (p : Payload) (b : Block) : Answer :=
  if p ≠ [] then refuse .badLength b else answerOk (statusBytes b) b

/-- STATUS. -/
def execStatus (p : Payload) (s : State) : Host.Outcome State Fault Refusal :=
  onBlock (request 0x02#8 (statusRequest p)) s

/-- RESTART: taken in every state; the part acts on it once its reply has been sent (R180). -/
def restartRequest (p : Payload) (b : Block) : Answer :=
  if p ≠ [] then refuse .badLength b
  else answerOk [] (setLink { b.link with restart := true } b)

/-- RESTART. -/
def execRestart (p : Payload) (s : State) : Host.Outcome State Fault Refusal :=
  onBlock (request 0x03#8 (restartRequest p)) s

/-- The reply of a STANDBY: the power state (R182). -/
def standbyAnswer (b : Block) : Answer := answerOk (u8 b.life.power.code) b

/-- STANDBY (R182, log 27). -/
def standbyRequest (p : Payload) (b : Block) : Answer :=
  if p ≠ [] then refuse .badLength b
  else if !standbyAllowed b then refuse .refusedState b
  else
    match b.gen.state with
    | .idle => standbyAnswer (enterStandby b)
    | .cooling | .draining => standbyAnswer (setLife { b.life with power := .standbyRequested } b)
    | .filling | .heating | .ready | .waitWater | .descale | .fault => refuse .refusedState b

/-- STANDBY. -/
def execStandby (p : Payload) (s : State) : Host.Outcome State Fault Refusal :=
  onBlock (request 0x04#8 (standbyRequest p)) s

/-! ### The catalogue (R189) -/

/-- The answer to a KIND that is not in the catalogue (R189). -/
def unknownRequest (b : Block) : Answer := refuse .unknownKind b

/-- The catalogue: each KIND with its request (R189). -/
def catalogue : List (Byte × (Payload → Block → Answer)) :=
  [(0x01#8, identRequest), (0x02#8, statusRequest), (0x03#8, restartRequest),
   (0x04#8, standbyRequest), (0x10#8, climateSetRequest), (0x11#8, climateOffRequest),
   (0x18#8, budgetSetRequest), (0x20#8, generatorDrainRequest), (0x21#8, generatorClearRequest),
   (0x28#8, descaleBeginRequest), (0x29#8, descaleAbortRequest), (0x30#8, recipeStoreRequest),
   (0x31#8, recipeReadRequest), (0x32#8, recipeEraseRequest), (0x33#8, recipeListRequest),
   (0x40#8, runStartRequest), (0x41#8, runPauseRequest), (0x42#8, runResumeRequest),
   (0x43#8, runAdvanceRequest), (0x44#8, runAbortRequest), (0x50#8, attentionPeekRequest),
   (0x51#8, attentionTakeRequest), (0x52#8, attentionCloseRequest),
   (0x53#8, attentionMaskRequest), (0x58#8, reportTakeRequest), (0x59#8, reportClearRequest),
   (0x60#8, clockSetRequest), (0x61#8, clockReadRequest), (0x68#8, settingsWriteRequest),
   (0x69#8, settingsReadRequest)]

/-- The request of a KIND with its payload (R189). -/
def handlerOf (kind : Byte) (p : Payload) : Block → Answer :=
  match catalogue.find? fun x => x.1 = kind with
  | some x => x.2 p
  | none => unknownRequest

/-- UNKNOWN_KIND: a whole frame whose KIND the catalogue lacks; a KIND it has is no such frame (R189,
log 24). The payload is not read. -/
def execUnknownKind (kind : Byte) (_p : Payload) (s : State) : Host.Outcome State Fault Refusal :=
  onBlock (fun b => if catalogueKinds.contains kind then b else request kind unknownRequest b) s

/-! ### The receiver (R187) -/

/-- A byte in HUNT: SYNC alone begins a frame (R187). -/
def huntByte (x : Byte) (l : Link) : Link :=
  if x = 0x5A#8 then { l with rx := .length, len := 0, buf := [], check := [] } else l

/-- A byte collected in BODY; the last one moves to CHECK (R187). -/
def bodyByte (x : Byte) (l : Link) : Link :=
  let buf := l.buf ++ [x]
  { l with buf := buf, check := [], rx := if l.len ≤ buf.length then .check else .body }

/-- The bytes a frame's CHECK covers: LEN, KIND, payload (R186). -/
def coveredBytes (l : Link) : List Byte := u8 l.len ++ l.buf

/-- The frame that a byte completes with a matching CHECK: its KIND and payload (R187). -/
def completedFrame (x : Byte) (l : Link) : Option (Byte × Payload) :=
  match l.rx, l.check, l.buf with
  | .check, [c], kind :: p =>
    if [c, x] = checkBytes (coveredBytes l) then some (kind, p) else none
  | _, _, _ => none

/-- A byte that completes no valid frame (R187). -/
def otherByte (x : Byte) (b : Block) : Block :=
  match b.link.rx with
  | .hunt => setLink (huntByte x b.link) b
  | .length =>
    if 1 ≤ x.toNat ∧ x.toNat ≤ 233 then
      setLink { b.link with rx := .body, len := x.toNat, buf := [], check := [] } b
    else dropFrame b
  | .body => setLink (bodyByte x b.link) b
  | .check =>
    match b.link.check with
    | [] => setLink { b.link with check := [x] } b
    | _ :: _ => dropFrame b

/-- The receiver returned to HUNT, its frame forgotten without a drop: what a byte in standby does to a
frame still in progress at the entry to standby (DESIGN CHOICE, log 49). -/
def Link.hunting (l : Link) : Link := { l with rx := .hunt, len := 0, buf := [], check := [] }

/-- A byte with a good stop bit: in standby it wakes the part and is received in HUNT; a byte that
completes a valid frame hands it on; any other moves the receiver (R184, R187, R188). DESIGN CHOICE
(log 49): a frame in progress at the entry to standby is forgotten by that byte without the dropped
flag. -/
def lineByte (x : Byte) (b : Block) : Block :=
  if !receiving b then b
  else if b.life.power = .standby then
    let w := wake .link b
    finishEvent b (setLink (huntByte x w.link.hunting) w)
  else
    match completedFrame x b.link with
    | some (kind, p) => request kind (handlerOf kind p) b
    | none => finishEvent b (otherByte x b)

/-- BYTE_RECEIVED. -/
def execByteReceived (x : Byte) (s : State) : Host.Outcome State Fault Refusal :=
  onBlock (lineByte x) s

/-- STANDBY_BYTE_RECEIVED. -/
def execStandbyByteReceived (x : Byte) (s : State) : Host.Outcome State Fault Refusal :=
  onBlock (lineByte x) s

/-! ### Drops (R187, R188) -/

/-- A whole frame dropped, its first byte a wake event in standby (R184, R187). -/
def frameDropped (b : Block) : Block :=
  if receiving b then finishEvent b (dropFrame (wake .link b)) else b

/-- FRAME_CHECK_FAILED: a frame whose CHECK differs. -/
def execFrameCheckFailed (s : State) : Host.Outcome State Fault Refusal := onBlock frameDropped s

/-- LEN_OUT_OF_RANGE: a frame whose LEN is 0 or above 233. -/
def execLenOutOfRange (s : State) : Host.Outcome State Fault Refusal :=
  onBlock (fun b => frameDropped b) s

/-- FRAME_DROPPED_REPLY_OWED: a valid frame completed while a reply is owed; with none owed there is no
such frame (R188). -/
def execFrameDroppedReplyOwed (s : State) : Host.Outcome State Fault Refusal :=
  onBlock (fun b => if b.link.owed.isSome then frameDropped b else b) s

/-- The frame in progress dropped; nothing in HUNT (R187). In standby too, where a frame was in progress
at the entry (DESIGN CHOICE, log 49). -/
def dropInProgress (b : Block) : Block := if b.link.rx = .hunt then b else dropFrame b

/-- A drop of the frame in progress, at a receiving link. -/
def lineDrop (b : Block) : Block :=
  if receiving b then finishEvent b (dropInProgress b) else b

/-- INTERBYTE_GAP_TIMEOUT: more than 20 ms between two bytes of a frame. -/
def execInterbyteGapTimeout (s : State) : Host.Outcome State Fault Refusal := onBlock lineDrop s

/-- LINE_BREAK: the line low for 2 ms or more. -/
def execLineBreak (s : State) : Host.Outcome State Fault Refusal := onBlock (fun b => lineDrop b) s

/-- A byte whose stop bit is low: it drops the frame in progress, and wakes the part from standby as
any byte does (R184, R187, log 25). DESIGN CHOICE (log 49): in standby it forgets a frame in progress at
the entry without the dropped flag. -/
def badStopByte (b : Block) : Block :=
  if !receiving b then b
  else if b.life.power = .standby then
    let w := wake .link b
    finishEvent b (setLink w.link.hunting w)
  else finishEvent b (dropInProgress b)

/-- BAD_STOP_BIT. -/
def execBadStopBit (s : State) : Host.Outcome State Fault Refusal := onBlock badStopByte s

/-! ### The reply sent (R180, R188) -/

/-- The link once the last byte of its reply has gone: the dropped flag cleared, or set by a drop made
while it was owed (R188). -/
def Link.sent (l : Link) : Link :=
  { l with owed := none, dropped := l.droppedAgain, droppedAgain := false, restart := false }

/-- The part acts on a RESTART: loads off, transfers stopped, the flush of every write (R180). -/
def beginRestart (b : Block) : Block :=
  let b := shutDown .stopped b
  setLife { b.life with flush := .restart } b

/-- The last byte of the reply owed has been sent (R180, R188). -/
def replySent (b : Block) : Block :=
  if b.link.owed.isSome then
    let again := b.link.restart
    let b := setLink b.link.sent b
    if again then beginRestart b else b
  else b

/-- REPLY_SENT. -/
def execReplySent (s : State) : Host.Outcome State Fault Refusal := onBlock (event replySent) s

/-! ### Host silence (R193) -/

/-- SILENT added at 5 s: to the run's holds, or to the reasons of a working climate with no run (R5,
R126, R193). -/
def addSilent (b : Block) : Block :=
  if b.run.state ≠ .idle then putHoldSilent true b
  else if b.climate.state.works then putSilentReason true b
  else b

/-- The silence timer reaches 5 s: the mark, and SILENT. A mark that stands from the 120 s of an earlier
count does not keep the new one from its 5 s (R193). -/
def silenceMark (b : Block) : Block :=
  if b.silence.running ∧ (b.silence.mark = false ∨ b.silence.ms ≤ 5000) then
    addSilent (setSilence { running := true, ms := 5000, mark := true } b)
  else b

/-- SILENCE_5S. -/
def execSilence5s (s : State) : Host.Outcome State Fault Refusal := onBlock (event silenceMark) s

/-- The run ends, or a working climate with no run enters OFF (R8, R126, R193). -/
def giveUp (b : Block) : Block :=
  if b.run.state ≠ .idle then endRun .silent b
  else if b.climate.state.works then enterOff b
  else b

/-- The silence timer reaches 120 s: its effects, and the timer stopped with the mark set (R193). -/
def silenceEnd (b : Block) : Block :=
  if live b && b.silence.running then
    setSilence { running := false, ms := 120000, mark := true } (finishEvent b (giveUp b))
  else b

/-- SILENCE_120S. -/
def execSilence120s (s : State) : Host.Outcome State Fault Refusal := onBlock silenceEnd s

end Sys2Proof.Machine
end

