-- ==== Sys2Proof/Machine/Dispatch.lean ====
section
/-! DEFINITION. The dispatch of the commands: one arm per row of the table, each one call of its meaning. -/

namespace Sys2Proof.Machine

/-- The effect of a command on everything but the queue of waiting commands. -/
def exec (i : Instr) (s : State) : Host.Outcome State Fault Refusal :=
  match i with
  | .ident p => Sys2Proof.Machine.execIdent p s
  | .status p => Sys2Proof.Machine.execStatus p s
  | .restart p => Sys2Proof.Machine.execRestart p s
  | .standby p => Sys2Proof.Machine.execStandby p s
  | .climateSet p => Sys2Proof.Machine.execClimateSet p s
  | .climateOff p => Sys2Proof.Machine.execClimateOff p s
  | .budgetSet p => Sys2Proof.Machine.execBudgetSet p s
  | .generatorDrain p => Sys2Proof.Machine.execGeneratorDrain p s
  | .generatorClear p => Sys2Proof.Machine.execGeneratorClear p s
  | .descaleBegin p => Sys2Proof.Machine.execDescaleBegin p s
  | .descaleAbort p => Sys2Proof.Machine.execDescaleAbort p s
  | .recipeStore p => Sys2Proof.Machine.execRecipeStore p s
  | .recipeRead p => Sys2Proof.Machine.execRecipeRead p s
  | .recipeErase p => Sys2Proof.Machine.execRecipeErase p s
  | .recipeList p => Sys2Proof.Machine.execRecipeList p s
  | .runStart p => Sys2Proof.Machine.execRunStart p s
  | .runPause p => Sys2Proof.Machine.execRunPause p s
  | .runResume p => Sys2Proof.Machine.execRunResume p s
  | .runAdvance p => Sys2Proof.Machine.execRunAdvance p s
  | .runAbort p => Sys2Proof.Machine.execRunAbort p s
  | .attentionPeek p => Sys2Proof.Machine.execAttentionPeek p s
  | .attentionTake p => Sys2Proof.Machine.execAttentionTake p s
  | .attentionClose p => Sys2Proof.Machine.execAttentionClose p s
  | .attentionMask p => Sys2Proof.Machine.execAttentionMask p s
  | .reportTake p => Sys2Proof.Machine.execReportTake p s
  | .reportClear p => Sys2Proof.Machine.execReportClear p s
  | .clockSet p => Sys2Proof.Machine.execClockSet p s
  | .clockRead p => Sys2Proof.Machine.execClockRead p s
  | .settingsWrite p => Sys2Proof.Machine.execSettingsWrite p s
  | .settingsRead p => Sys2Proof.Machine.execSettingsRead p s
  | .unknownKind k p => Sys2Proof.Machine.execUnknownKind k p s
  | .frameCheckFailed => Sys2Proof.Machine.execFrameCheckFailed s
  | .frameDroppedReplyOwed => Sys2Proof.Machine.execFrameDroppedReplyOwed s
  | .replySent => Sys2Proof.Machine.execReplySent s
  | .interbyteGapTimeout => Sys2Proof.Machine.execInterbyteGapTimeout s
  | .lineBreak => Sys2Proof.Machine.execLineBreak s
  | .badStopBit => Sys2Proof.Machine.execBadStopBit s
  | .lenOutOfRange => Sys2Proof.Machine.execLenOutOfRange s
  | .standbyByteReceived b => Sys2Proof.Machine.execStandbyByteReceived b s
  | .silence5s => Sys2Proof.Machine.execSilence5s s
  | .silence120s => Sys2Proof.Machine.execSilence120s s
  | .controlPeriodExpiry => Sys2Proof.Machine.execControlPeriodExpiry s
  | .flapTravelEnd => Sys2Proof.Machine.execFlapTravelEnd s
  | .allocationWindowExpiry => Sys2Proof.Machine.execAllocationWindowExpiry s
  | .zeroCrossing => Sys2Proof.Machine.execZeroCrossing s
  | .mainsLoss => Sys2Proof.Machine.execMainsLoss s
  | .samplingExpiry x => Sys2Proof.Machine.execSamplingExpiry x s
  | .switchRawChange x l => Sys2Proof.Machine.execSwitchRawChange x l s
  | .doorContactChange c o => Sys2Proof.Machine.execDoorContactChange c o s
  | .doorDisagreementTimeout => Sys2Proof.Machine.execDoorDisagreementTimeout s
  | .tankInsertion => Sys2Proof.Machine.execTankInsertion s
  | .tankRemoval => Sys2Proof.Machine.execTankRemoval s
  | .plugIn => Sys2Proof.Machine.execPlugIn s
  | .unplug => Sys2Proof.Machine.execUnplug s
  | .electrodeChange e w => Sys2Proof.Machine.execElectrodeChange e w s
  | .pacingExpiry c => Sys2Proof.Machine.execPacingExpiry c s
  | .flowEdge e => Sys2Proof.Machine.execFlowEdge e s
  | .pauseTimeout c => Sys2Proof.Machine.execPauseTimeout c s
  | .soakTimerExpiry => Sys2Proof.Machine.execSoakTimerExpiry s
  | .rinseHoldExpiry => Sys2Proof.Machine.execRinseHoldExpiry s
  | .stepTimerExpiry => Sys2Proof.Machine.execStepTimerExpiry s
  | .clockAdvance => Sys2Proof.Machine.execClockAdvance s
  | .retainedWriteComplete => Sys2Proof.Machine.execRetainedWriteComplete s
  | .coldStart x => Sys2Proof.Machine.execColdStart x s
  | .restartRequestStart x => Sys2Proof.Machine.execRestartRequestStart x s
  | .resetLineAssert => Sys2Proof.Machine.execResetLineAssert s
  | .resetLineRelease x => Sys2Proof.Machine.execResetLineRelease x s
  | .byteReceived b => Sys2Proof.Machine.execByteReceived b s

end Sys2Proof.Machine
end

