-- ==== Sys2Proof/Machine/Quiet.lean ====
section
/-! DEFINITION. One millisecond in which no command comes: the elapsed values that the spec keeps advance,
each up to the value at which its own expiry is due; the expiry itself is a command (log 2). -/

namespace Sys2Proof.Machine

/-- The flap one millisecond further on its travel, short of its end's event (R20). -/
def Climate.travel (turning : Bool) (c : Climate) : Climate :=
  if turning then
    match c.flap with
    | .movingOpen => { c with flapPos := min 4000 (c.flapPos + 1) }
    | .movingClosed => { c with flapPos := c.flapPos - 1 }
    | .isOpen | .isClosed => c
  else c

/-- A pause one millisecond longer (R76, R77). -/
def ChannelRec.elapse (r : ChannelRec) : ChannelRec :=
  if r.state = .paused then { r with pauseMs := satInc 120000 r.pauseMs } else r

/-- The rinse hold one millisecond longer (R93). -/
def Descale.elapse (d : Descale) : Descale :=
  if d.holdTimer then { d with holdMs := satInc 60000 d.holdMs } else d

/-- The silence timer one millisecond on, up to the mark it waits for (R193). -/
def Silence.elapse (q : Silence) : Silence :=
  if q.running then { q with ms := satInc (if q.mark then 120000 else 5000) q.ms } else q

/-- A debounce one millisecond on; at 50 ms an input whose raw level is its debounced state is settled,
its first reading made, and one that differs waits for its change event (R165). -/
def Switch.elapse (w : Switch) : Switch :=
  match w.timer with
  | none => w
  | some n => if 50 ≤ n + 1 ∧ w.raw = w.deb then { w with timer := none, unread := false }
              else { w with timer := some (satInc 50 n) }

/-- The seven debounces one millisecond on. -/
def Switches.elapse (w : Switches) : Switches :=
  { w with
    contactA := w.contactA.elapse, contactB := w.contactB.elapse, tank := w.tank.elapse
    plug := w.plug.elapse, eLow := w.eLow.elapse, eNormal := w.eNormal.elapse
    eHigh := w.eHigh.elapse }

/-- One millisecond of quiet time in a live part; a part that is not live keeps still. -/
def quietMillisecond (b : Block) : Block :=
  if live b then
    { b with
      climate := b.climate.travel (flapTurning b)
      fill := b.fill.elapse
      drain := b.drain.elapse
      descale := b.descale.elapse
      switches := b.switches.elapse
      silence := b.silence.elapse }
  else b

end Sys2Proof.Machine
end

