-- ==== Sys2Proof/Safety.lean ====
section
/-! DEFINITION. What counts as a sound state of the part, block by block, and what a request meets: the
words in which the statements about the machine are written. -/

namespace Sys2Proof.Machine

/-! ### Sound states -/

/-- The step report queue holds at most 8 records (R134). -/
def ReportsBounded (b : Block) : Prop := b.reports.list.length ≤ 8

/-- At most one pending write for each record, and none of the START NOTE, which a flush takes straight
into flight (R174, R175). -/
def WritesDistinct (b : Block) : Prop :=
  (b.store.queue.map Write.record).Nodup ∧ .startNote ∉ b.store.queue.map Write.record

/-- At most one of the two channels has a transfer in flight (R66). -/
def OneTransfer (b : Block) : Prop := ¬ (b.fill.inFlight = true ∧ b.drain.inFlight = true)

/-- The list holds at most one entry of each kind; the chain names exactly the entries in service, with
strictly falling priority numbers (R140, R145). -/
structure Attn.Sound (a : Attn) : Prop where
  kinds : (a.entries.map Entry.kind).Nodup
  chain : ∀ k, k ∈ a.chain ↔ ∃ e ∈ a.entries, e.kind = k ∧ e.state = .inService
  falling : a.chain.Pairwise fun x y => y.priority < x.priority

/-- The interlocks that stand in a load's set, as their conditions in the rest of the part give them:
the door, the overtemperature latch, the dry-fire latch, the level, standby, and a part that is off,
held in reset or flushing (R36 to R39, R180, R181). -/
def locksOf (b : Block) (l : Load) : LockSet :=
  { door := doorOpen b
    overtemp := b.climate.overtemp && Interlock.overtemp.covers l
    dryFire := b.gen.dryFire && Interlock.dryFire.covers l
    dryLevel := decide (b.gen.level = .dry) && Interlock.dryLevel.covers l
    standby := decide (b.life.power = .standby)
    mainsLoss := !live b }

/-- Every load's interlock set is the one its conditions give, and a load that fires has an empty one
(R36 to R40). -/
structure OutputSafe (b : Block) : Prop where
  agree : ∀ l, (b.share.loads.get l).locks = locksOf b l
  fires : ∀ l, (b.share.loads.get l).firing = true → (b.share.loads.get l).locks.isClear = true

/-- The store rests: a write is in flight, or none is pending (R174). -/
def StoreServed (b : Block) : Prop := b.store.inFlight.isSome = true ∨ b.store.queue = []

/-- The store of a part at work, past its start-up, rests between events (R174, R178). -/
def StoreAtRest (b : Block) : Prop := receiving b = true → StoreServed b

/-- A descale record with nothing in progress has every field clear (R82). -/
def DescaleRec.Sound (k : DescaleRec) : Prop := k.phase = .idle → k = .initial

/-- Every DESCALE write waiting or in flight carries a sound record. -/
def DescaleWritesSound (l : List Write) : Prop := ∀ k, .descale k ∈ l → k.Sound

/-- A procedure has the generator, or waits for its drain to end, or waits for the clear of a dry-fire
(R57, R83, R96). -/
def HasGenerator (b : Block) : Prop :=
  b.gen.state = .descale ∨ b.gen.state = .fault ∨ (b.gen.state = .draining ∧ b.gen.descaleTake = true)

/-- Under the steam lock a part at work neither heats nor holds its generator READY, with what that
rests on: the descale records are sound, and a procedure in progress has the generator (R57, R62,
R82). -/
structure SteamSafe (b : Block) : Prop where
  cold : live b = true → steamLock b = true → b.gen.state ≠ .heating ∧ b.gen.state ≠ .ready
  taken : live b = true → b.descale.kept.phase ≠ .idle → HasGenerator b
  record : b.descale.kept.Sound
  retained : b.store.descale.Sound
  writes : DescaleWritesSound (b.store.inFlight.toList ++ b.store.queue)

/-- The ranges of the settings but the budget (R176). -/
structure Settings.InRange (v : Settings) : Prop where
  shed : v.shed ≤ 7
  hardness : v.hardness ≤ 500
  kf : 500 ≤ v.kf ∧ v.kf ≤ 5000
  prescale : v.prescale = 1 ∨ v.prescale = 2 ∨ v.prescale = 4 ∨ v.prescale = 8
  agentClass : 1 ≤ v.agentClass ∧ v.agentClass ≤ 3
  resumeWindow : v.resumeWindow ≤ 30
  offset : -50 ≤ v.offset ∧ v.offset ≤ 50

/-- The settings lie in their ranges, the budget in that of the mains class; so do, but for the budget,
which a start clamps anew, the record and every write of it (R27, R176). -/
structure SettingsSound (b : Block) : Prop where
  held : b.settings.InRange
  budget : 1200 ≤ b.settings.budget ∧ b.settings.budget ≤ budgetMax b.straps.mains
  retained : b.store.settings.InRange
  writes : ∀ v, .settings v ∈ b.store.inFlight.toList ++ b.store.queue → v.InRange

/-- A START NOTE is in flight (R175). -/
def NoteInFlight (b : Block) : Prop := b.store.inFlight.map Write.record = some .startNote

/-- The life record of a part: a lost supply and an asserted RESET line have a flush of their own, a
START NOTE is in flight in such a flush alone, and a part in its settling interval is awake (R174, R175,
R179, R181, R182). -/
structure LifeSound (b : Block) : Prop where
  held : b.life.mainsLost = true ∨ b.life.resetLine = true → b.life.flush.writesNote = true
  noted : NoteInFlight b → b.life.flush.writesNote = true
  awake : b.life.settling.isSome = true → b.life.power = .awake

/-- The generator in service: steam is wanted while a steam mode works, and then alone; a generator that
fills, serves or waits for water has it wanted; a fill of the generator in flight has one that fills or
serves (R17, R45, R46, R48, R49). -/
structure ServiceSound (b : Block) : Prop where
  wanted : b.climate.steamWanted = (b.climate.mode.isSteam && b.climate.state.works)
  serves : b.gen.state = .filling ∨ b.gen.state = .heating ∨ b.gen.state = .ready ∨
    b.gen.state = .waitWater → b.climate.steamWanted = true
  filling : b.fill.inFlight = true → b.fill.owner = .generator →
    b.gen.state = .filling ∨ b.gen.state = .heating ∨ b.gen.state = .ready

/-- The queues, channels, life record and generator service of a sound part. -/
structure QueuesSound (b : Block) : Prop where
  reports : ReportsBounded b
  writes : WritesDistinct b
  transfers : OneTransfer b
  store : StoreAtRest b
  life : LifeSound b
  service : ServiceSound b

/-! ### Sound recipes (R100, R101, R103) -/

/-- A number that two bytes carry as a signed value (R194). -/
def FitsSigned (v : Int) : Prop := -32768 ≤ v ∧ v < 32768

/-- A step as the store can hold it: every field in the range of its bytes, the optional fields present
exactly where the end kind uses them (R101, R103). -/
structure Step.Sound (x : Step) : Prop where
  setpoint : FitsSigned x.setpoint
  moisture : x.moisture < 256
  fan : x.fan < 256
  limit : x.limit < 65536
  limited : x.endKind ≠ .confirm → x.limit ≠ 0
  rest : x.mode = .rest → x.preheat = false
  core : x.coreTarget.isSome = decide (x.endKind = .core)
  huTarget : x.huTarget.isSome = decide (x.endKind = .heatUnits)
  huBase : x.huBase.isSome = decide (x.endKind = .heatUnits)
  coreFits : ∀ v ∈ x.coreTarget, FitsSigned v
  targetFits : ∀ n ∈ x.huTarget, n < 65536
  baseFits : ∀ v ∈ x.huBase, FitsSigned v

/-- A recipe as the store can hold it: a name of 1 to 16 printable characters, 1 to 12 sound steps
(R100, R103). -/
structure Recipe.Sound (r : Recipe) : Prop where
  name : 1 ≤ r.name.length ∧ r.name.length ≤ 16
  printed : r.name.all printable = true
  count : 1 ≤ r.steps.length ∧ r.steps.length ≤ 12
  steps : ∀ x ∈ r.steps, x.Sound

/-! ### A request at the link -/

/-- A request that comes now is handled: the link receives, and no reply is owed (R187, R188). -/
def Answers (s : State) : Prop := receiving s.toBlock = true ∧ s.link.owed = none

/-- The part as a request finds it: awake, SILENT removed, the silence timer restarted, the receiver in
HUNT (R184, R187, R193). -/
def heard (b : Block) : Block := acceptFrame (wake .link b)

/-- The part with the reply to a request owed (R186, R188, R190). -/
def replied (kind : Byte) (st : Status) (content : Payload) (b : Block) : Block :=
  oweReply kind st content b

/-! ### A climate suspended -/

/-- The climate after a reason has joined its set, which is then `r`: an ACTIVE one is SUSPENDED, its
element rows at 0 W and a demand of 0 handed over, so that a READY generator asks 0 W; a climate in any
other state keeps it, the output stage and the generator. Nothing else of the climate changes (R3, R6,
R44). -/
def ReasonJoined (r : Reasons) (b : Block) (t : State) : Prop :=
  t.climate =
    { b.climate with
      state := if b.climate.state = .active then .suspended else b.climate.state
      reasons := r } ∧
  (b.climate.state = .active →
    t.share.requests.ring.watts = 0 ∧ t.share.requests.top.watts = 0 ∧
    t.share.requests.bottom.watts = 0 ∧ t.gen.demand = 0 ∧
    (b.gen.state = .ready → t.share.requests.gen.watts = 0) ∧
    t.share = { b.share with requests := t.share.requests } ∧
    t.gen = { b.gen with demand := 0, prio := t.gen.prio }) ∧
  (b.climate.state ≠ .active → t.share = b.share ∧ t.gen = b.gen)

/-- The catalogue's rows as commands (R189). -/
def commandTable : List (Byte × (Payload → Instr)) :=
  [(0x01#8, .ident), (0x02#8, .status), (0x03#8, .restart), (0x04#8, .standby),
   (0x10#8, .climateSet), (0x11#8, .climateOff), (0x18#8, .budgetSet), (0x20#8, .generatorDrain),
   (0x21#8, .generatorClear), (0x28#8, .descaleBegin), (0x29#8, .descaleAbort),
   (0x30#8, .recipeStore), (0x31#8, .recipeRead), (0x32#8, .recipeErase), (0x33#8, .recipeList),
   (0x40#8, .runStart), (0x41#8, .runPause), (0x42#8, .runResume), (0x43#8, .runAdvance),
   (0x44#8, .runAbort), (0x50#8, .attentionPeek), (0x51#8, .attentionTake),
   (0x52#8, .attentionClose), (0x53#8, .attentionMask), (0x58#8, .reportTake),
   (0x59#8, .reportClear), (0x60#8, .clockSet), (0x61#8, .clockRead), (0x68#8, .settingsWrite),
   (0x69#8, .settingsRead)]

/-- The command that a whole frame of a KIND is: the request of the catalogue, or one of unknown kind
(R189). -/
def commandOf (kind : Byte) (p : Payload) : Instr :=
  match commandTable.find? fun x => x.1 = kind with
  | some x => x.2 p
  | none => .unknownKind kind p

/-- The frame that a request is: its KIND and payload; an event is none (R186, R189). -/
def requestFrame : Instr → Option (Byte × Payload)
  | .ident p => some (0x01#8, p)
  | .status p => some (0x02#8, p)
  | .restart p => some (0x03#8, p)
  | .standby p => some (0x04#8, p)
  | .climateSet p => some (0x10#8, p)
  | .climateOff p => some (0x11#8, p)
  | .budgetSet p => some (0x18#8, p)
  | .generatorDrain p => some (0x20#8, p)
  | .generatorClear p => some (0x21#8, p)
  | .descaleBegin p => some (0x28#8, p)
  | .descaleAbort p => some (0x29#8, p)
  | .recipeStore p => some (0x30#8, p)
  | .recipeRead p => some (0x31#8, p)
  | .recipeErase p => some (0x32#8, p)
  | .recipeList p => some (0x33#8, p)
  | .runStart p => some (0x40#8, p)
  | .runPause p => some (0x41#8, p)
  | .runResume p => some (0x42#8, p)
  | .runAdvance p => some (0x43#8, p)
  | .runAbort p => some (0x44#8, p)
  | .attentionPeek p => some (0x50#8, p)
  | .attentionTake p => some (0x51#8, p)
  | .attentionClose p => some (0x52#8, p)
  | .attentionMask p => some (0x53#8, p)
  | .reportTake p => some (0x58#8, p)
  | .reportClear p => some (0x59#8, p)
  | .clockSet p => some (0x60#8, p)
  | .clockRead p => some (0x61#8, p)
  | .settingsWrite p => some (0x68#8, p)
  | .settingsRead p => some (0x69#8, p)
  | .unknownKind k p => some (k, p)
  | .frameCheckFailed | .frameDroppedReplyOwed | .replySent | .interbyteGapTimeout | .lineBreak |
    .badStopBit | .lenOutOfRange | .standbyByteReceived _ | .silence5s | .silence120s |
    .controlPeriodExpiry | .flapTravelEnd | .allocationWindowExpiry | .zeroCrossing | .mainsLoss |
    .samplingExpiry _ | .switchRawChange _ _ | .doorContactChange _ _ | .doorDisagreementTimeout |
    .tankInsertion | .tankRemoval | .plugIn | .unplug | .electrodeChange _ _ | .pacingExpiry _ |
    .flowEdge _ | .pauseTimeout _ | .soakTimerExpiry | .rinseHoldExpiry | .stepTimerExpiry |
    .clockAdvance | .retainedWriteComplete | .coldStart _ | .restartRequestStart _ |
    .resetLineAssert | .resetLineRelease _ | .byteReceived _ => none

/-- The lengths a request's payload may have, by its KIND (R189): RECIPE STORE follows its step count,
RUN START its start mode. -/
def lengthFits (kind : Byte) (p : Payload) : Bool :=
  match kind.toNat with
  | 0x10 => p.length = 6
  | 0x18 => p.length = 3
  | 0x30 => 19 ≤ p.length
  | 0x31 | 0x32 | 0x33 | 0x52 => p.length = 1
  | 0x40 => p.length = 2 ∨ p.length = 7
  | 0x53 => p.length = 4
  | 0x60 => p.length = 5
  | 0x68 => p.length = 14
  | _ => p.length = 0

/-- The bytes of a line received one after the other, each with a good stop bit and in time. -/
def feed : List Byte → State → Host.Outcome State Fault Refusal
  | [], s => .next s
  | x :: xs, s =>
    match exec (.byteReceived x) s with
    | .next t => feed xs t
    | .fault f => .fault f
    | .refused r => .refused r

/-- The state with the part changed and the queue of waiting commands kept. -/
def State.withBlock (s : State) (b : Block) : State := { s with toBlock := b }

end Sys2Proof.Machine
end

