-- ==== Sys2Proof/Certificates/Slice0/Obligations.lean ====
section
/-! DEFINITION. The statements for the provers: what the commands of the part do, block by block, and the
invariants every step keeps. -/

open Sys2Proof Sys2Proof.Machine

/-- For every command and every queue behind it, step on a state with that command in front is exec
of the command on the state with the rest of the queue; with no command waiting, step is one
millisecond of quiet time (the model's choice, log 2). The queue itself is the model's. -/
def Obligations.StepRunsTheFrontCommand : Prop :=
  (∀ (c : Instr) (rest : List Instr) (s : State),
    step (s.withPending (c :: rest)) = exec c (s.withPending rest)) ∧
  ∀ s : State, s.pending = [] → step s = .next (s.withBlock (quietMillisecond s.toBlock))

/-- Every one of the 68 commands, with any operands and in any state, answers a next state, never a
fault or a refusal, and leaves the queue of waiting commands as it was. The spec gives each of its
events an outcome; the queue is the model's. -/
def Obligations.EveryCommandCompletes : Prop :=
  ∀ (c : Instr) (s : State), ∃ t, exec c s = .next t ∧ t.pending = s.pending

/-- After reset: the clock stands at day 0, second 0, not valid; the start record says POWER_ON with
the oscillator stopped and every retained record replaced; the settings are the defaults; the
climate is OFF; the generator IDLE with the account at the due threshold; both channels IDLE; the
descale record clear; no run; the report queue empty; every slot EMPTY with count 0; every analog
channel STARTING; the receiver in HUNT, no reply owed, the dropped flag clear; CLOCK_INVALID and
DESCALE_DUE raised, in code order; no command waiting. That the part is FULL and of the 10 A class
is the model's choice (log 4). -/
def Obligations.ResetIsTheFirstPowerOn : Prop :=
  State.reset.clock = ⟨⟨0, 0⟩, false⟩ ∧
  State.reset.life.start.cause = .powerOn ∧ State.reset.life.start.oscStopped = true ∧
  State.reset.life.start.replaced = allRecords ∧ State.reset.life.power = .awake ∧
  State.reset.settings = defaultSettings .a10 ∧ State.reset.store.settings = defaultSettings .a10 ∧
  State.reset.climate.state = .off ∧ State.reset.gen.state = .idle ∧
  State.reset.gen.account = ⟨dueThreshold .full, 0, 0⟩ ∧
  State.reset.fill.state = .idle ∧ State.reset.drain.state = .idle ∧
  State.reset.descale.kept = .initial ∧ State.reset.run = .cleared ∧
  State.reset.reports = ⟨[], false⟩ ∧
  (∀ n : Fin 16, State.reset.store.slots.get n = SlotRec.empty) ∧
  State.reset.sensors = .initial ∧ State.reset.link = .initial ∧
  State.reset.attn.entries.map Entry.kind = [.clockInvalid, .descaleDue] ∧
  State.reset.attn.chain = [] ∧ State.reset.pending = []

/-- In the reset state the queues, channels, life record and generator service are sound, the
attention list is ordered, the interlock sets agree with their conditions and nothing fires, the
steam lock is kept, and the settings lie in their ranges. The output stages' start values are the
model's (log 32, 33). -/
def Obligations.ResetIsSound : Prop :=
  QueuesSound State.reset.toBlock ∧ State.reset.attn.Sound ∧ OutputSafe State.reset.toBlock ∧
  SteamSafe State.reset.toBlock ∧ SettingsSound State.reset.toBlock

/-- If the report queue holds at most 8 records, the write queue at most one pending write per
record and none of the START NOTE, at most one channel has a transfer in flight, and the store of a
part at work rests (a write in flight, or none pending); if a part without supply or under the RESET
line has the flush of one of the two, a START NOTE is in flight in such a flush alone, and a part in
its settling interval is awake; if steam is wanted exactly in a steam mode ACTIVE or SUSPENDED; and
if a generator FILLING, HEATING, READY or in WAIT_WATER has steam wanted and one whose fill is in
flight is FILLING, HEATING or READY: then all of it holds after every step, whatever the command. -/
def Obligations.QueuesStaySound : Prop :=
  ∀ s t : State, QueuesSound s.toBlock → step s = .next t → QueuesSound t.toBlock

/-- If the list holds at most one entry of each kind, the chain names exactly the entries
IN_SERVICE, and the chain's priority numbers fall strictly, then the same holds after every step,
whatever the command. -/
def Obligations.AttentionStaysOrdered : Prop :=
  ∀ s t : State, s.attn.Sound → step s = .next t → t.attn.Sound

/-- If every load's interlock set is the one its conditions give (door open, overtemperature latch,
dry-fire latch, level DRY, standby, part off or flushing) and no load with an interlock fires, then
the same holds after every step. In particular no element and no generator heater fires while the
door is open. That a part flushing for a RESTART holds MAINS_LOSS is the model's choice (log 18:
R180 names no interlock); so is that door and level agree in the settling interval, where the spec
gives them at its end (logs 5, 32). The life record is premised sound: a lost supply and an asserted
RESET line have a flush of their own (QueuesStaySound keeps it so). -/
def Obligations.OutputStaysSafe : Prop :=
  ∀ s t : State, LifeSound s.toBlock → OutputSafe s.toBlock → step s = .next t → OutputSafe t.toBlock

/-- If under the steam lock a part at work is neither HEATING nor READY, the descale records are
clear when IDLE, and a procedure in progress has the generator, then the same holds after every
step. R62's sentence is the first clause; the other clauses are what makes it hold of every state
they admit. A part that flushes keeps its generator state (log 18), hence 'a part at work'. The life
record is premised sound (QueuesStaySound keeps it so). -/
def Obligations.SteamStaysLocked : Prop :=
  ∀ s t : State, LifeSound s.toBlock → SteamSafe s.toBlock → step s = .next t → SteamSafe t.toBlock

/-- If the settings lie in their ranges, the budget between 1200 W and the mains class maximum, and
the retained record and every write of it lie in their ranges but for the budget, then the same
holds after every step: a start clamps the budget of the record against the straps it read. -/
def Obligations.SettingsStayInRange : Prop :=
  ∀ s t : State, SettingsSound s.toBlock → step s = .next t → SettingsSound t.toBlock

/-- For every KIND and every payload of at most 232 bytes: a receiving part, not in standby and in
HUNT, that receives the bytes of the frame (SYNC, LEN, KIND, payload, CHECK) one after the other
ends exactly as at the whole request: handled, or dropped while a reply is owed. Bytes in time and
with good stop bits are the line's; faults of the line are other commands. For every KIND, every
payload of at most 232 bytes and every two bytes that are not the frame's CHECK: a receiving part,
not in standby and in HUNT, that receives SYNC, LEN, KIND, the payload and those two bytes ends
exactly as at FRAME_CHECK_FAILED. One BYTE_RECEIVED at a receiving part not in standby, by the
receiver's state: in HUNT, 0x5A moves to LENGTH and any other byte changes nothing; in LENGTH, 1 to
233 is kept as LEN and moves to BODY, any other is a drop; in BODY it is collected, 0x5A too, and
the last of LEN moves to CHECK; in CHECK the first is kept, and the second makes the request where
the two are the CHECK of LEN, KIND and payload, else a drop. A drop returns to HUNT and sets the
dropped flag, or, while a reply is owed, marks it to be set again (log 14). Nothing else changes. -/
def Obligations.FrameBytesMakeTheRequest : Prop :=
  (∀ (kind : Byte) (p : Payload) (s : State), p.length ≤ 232 → receiving s.toBlock = true →
    s.life.power ≠ .standby → s.link.rx = .hunt →
    feed (frameBytes kind p) s = exec (commandOf kind p) s) ∧
  ((∀ (kind : Byte) (p : Payload) (x y : Byte) (s : State), p.length ≤ 232 →
    receiving s.toBlock = true → s.life.power ≠ .standby → s.link.rx = .hunt →
    [x, y] ≠ checkBytes (u8 (p.length + 1) ++ [kind] ++ p) →
    feed ([0x5A#8] ++ (u8 (p.length + 1) ++ [kind] ++ p) ++ [x, y]) s = exec .frameCheckFailed s) ∧
  ∀ (x : Byte) (s : State), receiving s.toBlock = true → s.life.power ≠ .standby →
    let l := s.link
    let now : Link → State := fun l => s.withBlock (setLink l s.toBlock)
    let dropped : Link :=
      { l with
        rx := .hunt, len := 0, buf := [], check := []
        dropped := l.dropped || l.owed.isNone, droppedAgain := l.droppedAgain || l.owed.isSome }
    (l.rx = .hunt →
      (x = 0x5A#8 →
        exec (.byteReceived x) s =
          .next (now { l with rx := .length, len := 0, buf := [], check := [] })) ∧
      (x ≠ 0x5A#8 → exec (.byteReceived x) s = .next s)) ∧
    (l.rx = .length →
      (1 ≤ x.toNat → x.toNat ≤ 233 →
        exec (.byteReceived x) s =
          .next (now { l with rx := .body, len := x.toNat, buf := [], check := [] })) ∧
      (x.toNat = 0 ∨ 233 < x.toNat → exec (.byteReceived x) s = .next (now dropped))) ∧
    (l.rx = .body →
      exec (.byteReceived x) s =
        .next (now
          { l with
            rx := if l.buf.length + 1 < l.len then .body else .check
            buf := l.buf ++ [x], check := [] })) ∧
    (l.rx = .check → l.check = [] →
      exec (.byteReceived x) s = .next (now { l with check := [x] })) ∧
    (∀ c, l.rx = .check → l.check = [c] →
      ([c, x] ≠ checkBytes (u8 l.len ++ l.buf) →
        exec (.byteReceived x) s = .next (now dropped)) ∧
      ∀ kind p, l.buf = kind :: p → [c, x] = checkBytes (u8 l.len ++ l.buf) →
        ∃ t, exec (commandOf kind p) s = .next t ∧ exec (.byteReceived x) s = .next t))

/-- For every slot number and every sound recipe (1 to 16 printable characters; 1 to 12 steps; every
field in the range of its bytes; a REST step without preheat; a time limit above 0 but for CONFIRM;
the optional fields present exactly where the end kind uses them, a core target or base of 0x8000
being present too: the model's choice, log 38): the checks of RECIPE STORE accept the payload that
RECIPE READ sends, and the recipe they read is that recipe. For every mains class and all ten
settings in their ranges: the fields that SETTINGS WRITE reads from the fourteen bytes of SETTINGS
READ, clamped, are those settings. -/
def Obligations.RecipesAndSettingsSurviveTheLink : Prop :=
  (∀ (n : Fin 16) (r : Recipe), r.Sound → readRecipe (recipeBytes n.val r) = .sound r) ∧
  (∀ (m : MainsClass) (v : Settings), v.InRange → 1200 ≤ v.budget → v.budget ≤ budgetMax m →
    settingsFields m (settingsBytes v) = some v)

/-- For every KIND and payload, at a part that handles requests: where the request's owner does not
answer OK, the part ends as a heard frame leaves it (awake, SILENT removed, the silence timer
restarted), with the refusal owed and nothing else changed. At a part that handles requests: every
request of the catalogue whose payload has a length its KIND never has is refused with BAD_LENGTH,
and a frame whose KIND the catalogue lacks is answered UNKNOWN_KIND, whatever its payload; each
carries the status alone and changes nothing else. -/
def Obligations.RefusedRequestOnlyAnswers : Prop :=
  (∀ (kind : Byte) (p : Payload) (s : State), Answers s →
    (handlerOf kind p (heard s.toBlock)).status ≠ .ok →
    exec (commandOf kind p) s =
      .next (s.withBlock
        (replied kind (handlerOf kind p (heard s.toBlock)).status
          (handlerOf kind p (heard s.toBlock)).content (heard s.toBlock)))) ∧
  (∀ (kind : Byte) (p : Payload) (s : State), Answers s →
    (kind ∈ catalogueKinds → lengthFits kind p = false →
      exec (commandOf kind p) s =
        .next (s.withBlock (replied kind .badLength [] (heard s.toBlock)))) ∧
    (kind ∉ catalogueKinds →
      exec (.unknownKind kind p) s =
        .next (s.withBlock (replied kind .unknownKind [] (heard s.toBlock)))))

/-- For every KIND and payload, at a part that handles requests: the request answers a next state
that owes a reply of the request's KIND with bit 7 set, whose payload begins with a status code and,
in bit 7, the dropped flag as it stood; the dropped flag stands on until the reply is sent, and the
receiver is in HUNT. -/
def Obligations.EveryRequestOwesItsReply : Prop :=
  ∀ (kind : Byte) (p : Payload) (s : State), Answers s →
    ∃ (t : State) (st : Status) (content : Payload),
      exec (commandOf kind p) s = .next t ∧
      t.link.owed = some ⟨kind ||| 0x80#8, statusByte st s.link.dropped :: content⟩ ∧
      t.link.dropped = s.link.dropped ∧ t.link.rx = .hunt

/-- For every KIND and payload, at a receiving part that owes a reply: the request is not handled.
Its first byte wakes a part in standby; then only the link changes: the receiver is in HUNT and the
dropped flag is marked to be set again once the reply owed has been sent (log 14).
FRAME_DROPPED_REPLY_OWED is that event. -/
def Obligations.FrameDroppedWhileReplyOwed : Prop :=
  ∀ (kind : Byte) (p : Payload) (s : State), receiving s.toBlock = true →
    s.link.owed.isSome = true →
    exec (commandOf kind p) s =
      .next (s.withBlock
        (setLink
          { s.link with rx := .hunt, len := 0, buf := [], check := [], droppedAgain := true }
          (wake .link s.toBlock))) ∧
    exec .frameDroppedReplyOwed s = exec (commandOf kind p) s

/-- At a part that handles requests, an IDENT with a non-empty payload is refused with BAD_LENGTH.
Otherwise it is answered OK, in every state, with the part number 28 in two bytes, the design
revision (1 to 255), the link version 1, the cavity class, the mains class and the largest payload
232 in two bytes. Nothing else changes. -/
def Obligations.IdentAnswers : Prop :=
  1 ≤ designRevision ∧ designRevision ≤ 255 ∧
  ∀ s : State, Answers s →
    (∀ p, p ≠ [] →
      exec (.ident p) s = .next (s.withBlock (replied 0x01#8 .badLength [] (heard s.toBlock)))) ∧
    exec (.ident []) s =
      .next (s.withBlock
        (replied 0x01#8 .ok
          [0#8, 28#8, BitVec.ofNat 8 designRevision, 1#8,
           BitVec.ofNat 8 (match s.straps.cavity with | .full => 0 | .compact => 1),
           BitVec.ofNat 8 (match s.straps.mains with
             | .a10 => 0 | .a13 => 1 | .a16 => 2 | .a2x16 => 3), 0#8, 232#8]
          (heard s.toBlock)))

/-- At a part that handles requests, STATUS is answered OK with 206 bytes, all read from the part as
the frame left it, and nothing else changes. Each row of the STATUS table of 11.5 is spelled out at
its offsets, which count the status byte as 0: the clock, the power state (AWAKE or
STANDBY_REQUESTED: a part in standby has been woken by the frame's first byte) and the wake cause;
the start record; the store; the climate, with u 0 in OFF and FAULT and with Tm, the fan and the
lamp; the budget and straps; the four loads; the generator; the two channels; the descaling
procedure; the run, its step's counts and the report queue; the attention list and ATTN; the analog
channels; the readings and switches; the silence timer. A named value is its place in its list, a
set one bit per member, an absent value as R194 gives it. The model's readings: a target level LOW 0
to HIGH 2 (log 16), a record set's high byte first (log 17), the new cavity offset at once in Tm
(log 43), pause 0, tank cycle NONE and door cycle NONE outside their states, not the absent forms
(log 37), the step index 0 while PENDING and the disagreement timer's stop (log 15). -/
def Obligations.StatusAnswers : Prop :=
  ∀ s : State, Answers s →
    let h := heard s.toBlock
    let c := h.climate
    let g := h.gen
    let k := h.descale.kept
    let r := h.run
    let f := h.run.step
    let a := h.attn
    let w := h.switches
    let mean : Analog → Int := fun x => x.window.sum.tdiv 4
    let reply := statusByte .ok s.link.dropped :: statusBytes h
    let field : Nat → Nat → Payload := fun offset n => (reply.drop offset).take n
    let records : List RecordName → Payload := fun l => u24 (bitsOf (allRecords.map l.contains))
    let channel : ChannelRec → Nat → Payload := fun q flow =>
      u8 ([ChannelState.idle, .active, .paused, .ended].idxOf q.state) ++
        u8 ([Owner.none, .generator, .descale].idxOf q.owner) ++
        u8 ([TransferMode.unsync, .destSync, .sourceSync].idxOf q.mode) ++
        u8? (q.target.map fun l =>
          match l with | .low => 0 | .normal => 1 | .high => 2 | .dry => 0xFF) ++
        u16 q.limit ++ u16 q.strokes ++ u8? q.runOn ++ u16 flow ++
        u8 (if q.state = .paused then q.pauseMs / 1000 else 0) ++
        u8? (q.endReason.map fun e =>
          [EndReason.level, .count, .noFlow, .sourceLost, .stopped, .interlock].idxOf e) ++
        u8? (q.levelAtEnd.map fun l => [Level.dry, .low, .normal, .high].idxOf l)
    exec (.status []) s = .next (s.withBlock (replied 0x02#8 .ok (statusBytes h) h)) ∧
    reply.length = 207 ∧
    field 1 5 = u16 s.clock.time.day ++ u24 s.clock.time.sec ∧
    field 6 3 =
      flagByte s.clock.valid ++ u8 (if s.life.power = .standbyRequested then 1 else 0) ++
        u8? (h.life.wake.map fun x =>
          [WakeCause.link, .door, .tank, .probe, .startDue].idxOf x) ∧
    field 9 8 =
      u8 ([StartCause.powerOn, .mainsReturn, .restartRequest, .resetLine].idxOf
          h.life.start.cause) ++
        records h.life.start.replaced ++ records h.life.start.lost ++
        setByte [h.life.start.oscStopped, h.life.start.discarded] ∧
    field 17 4 =
      u8 (match h.store.inFlight with | none => 0 | some x => allRecords.idxOf x.record + 1) ++
        records (h.store.queue.map Write.record) ∧
    field 21 15 =
      u8 ([ClimateState.off, .active, .suspended, .fault].idxOf c.state) ++
        setByte [c.reasons.door, c.reasons.runHold, c.reasons.silent, c.reasons.sensor] ++
        u8 ([Mode.fanBake, .topBottom, .grill, .fanGrill, .bottomHeat, .steam, .combi].idxOf
          c.mode) ++
        i16 c.ts ++ u8 c.ms ++ u8 c.fan ++
        u8 ([Bias.dflt, .heatFirst, .steamFirst].idxOf c.bias) ++
        u8 ([Source.link, .run].idxOf c.source) ++
        u16 (if c.state = .off ∨ c.state = .fault then 0 else c.u) ++
        temp? (if h.sensors.cavity.validity = .valid then
            some (mean h.sensors.cavity + h.settings.offset)
          else none) ++
        setByte
          [decide (h.sensors.cavity.validity = .valid), c.overtemp, c.openLoop,
           decide (c.state = .active ∧ c.mode ∈ [Mode.fanBake, .fanGrill, .steam, .combi]),
           w.contactA.deb || w.contactB.deb || c.lampMark ||
             (h.settings.lampCooking && decide (c.state = .active))] ++
        u8 ([Flap.isOpen, .isClosed, .movingOpen, .movingClosed].idxOf c.flap) ∧
    field 36 6 =
      u16 h.settings.budget ++ u8 h.settings.shed ++
        u8 ([CavityClass.full, .compact].idxOf h.straps.cavity +
          2 * [MainsClass.a10, .a13, .a16, .a2x16].idxOf h.straps.mains) ++
        u16 h.share.fixed ∧
    (∀ l, field (42 + 8 * [Load.ring, .top, .bottom, .gen].idxOf l) 8 =
      let o := h.share.loads.get l
      u16 (h.share.requests.get l).watts ++ u8 (h.share.requests.get l).prio ++
        u16 (h.share.grants.get l) ++ u16 o.applied ++
        setByte
          [o.locks.door, o.locks.overtemp, o.locks.dryFire, o.locks.dryLevel, o.locks.standby,
           o.locks.mainsLoss]) ∧
    field 74 12 =
      u8 ([GenState.idle, .filling, .heating, .ready, .cooling, .draining, .waitWater, .descale,
          .fault].idxOf g.state) ++
        u8 ([Level.dry, .low, .normal, .high].idxOf g.level) ++
        temp? h.sensors.generator.last ++ u16 g.demand ++ u8 g.prio ++
        setByte
          [decide (h.sensors.generator.validity = .valid), g.dryFire, g.serviceDrain,
           g.descaleTake, decide (lockThreshold h.straps.cavity ≤ g.account.scale), k.rinseOwed] ++
        u32 g.account.scale ∧
    field 86 14 = channel h.fill h.fill.flow ∧ field 100 14 = channel h.drain 0 ∧
    field 114 8 =
      u8 ([DescalePhase.idle, .drainOld, .addAgent, .agentFill, .soak, .agentDrain, .refillClean,
          .rinseFill, .rinseHold, .rinseDrain].idxOf k.phase) ++
        u8 k.minutes ++ u8 h.descale.seconds ++
        u8 (match h.straps.cavity with | .full => 20 | .compact => 15) ++ u8 k.rinses ++
        setByte [k.rinseOwed, k.soakDone, k.aborted, k.agentRedo] ++
        u8? (h.descale.wait.map fun x => [WaterWait.tankEmpty, .tankMissing].idxOf x) ++
        u8 (if k.phase = .refillClean then
            [TankCycle.none, .removed, .cycled].idxOf h.descale.tankCycle
          else 0) ∧
    field 122 15 =
      u8 ([RunState.idle, .pending, .running].idxOf r.state) ++ u8 r.runId ++
        u8? (r.slot.map Fin.val) ++ u16 r.writeCount ++
        u8 ([StartMode.now, .atTime, .readyBy].idxOf r.startMode) ++
        clockTime? (if r.state = .pending then r.startTime else none) ++ u8 r.stepIndex ++
        u8 (r.recipe.elim 0 fun x => x.steps.length) ++
        u8? (r.phase.map fun x => [StepPhase.preheat, .prompt, .active].idxOf x) ++
        setByte
          [r.hold.door, r.hold.pause, r.hold.steam, r.hold.probe, r.hold.silent, r.hold.sensor,
           r.hold.power] ∧
    field 137 27 =
      u16 f.active ++ u16 f.held ++ u16 f.preheat ++ u32 f.heat ++ u8 f.doorCount ++
        clockTime? f.firstDoor ++ clockTime? f.lastDoor ++ u16 f.doorOpen ++ u16 f.steamShort ++
        u16 f.powerLimited ∧
    field 164 5 =
      setByte [f.preheatLong, f.promptSkipped] ++
        u8 (if r.phase = some .prompt then
            [DoorCycle.none, .opened, .cycled].idxOf f.doorCycle
          else 0) ++
        u8 h.reports.list.length ++ flagByte h.reports.overflow ++ u8 h.runCounter ∧
    field 169 11 =
      u8 a.entries.length ++ u8 (a.entries.filter fun e => e.state = .pending).length ++
        u8 (a.entries.filter fun e => e.state = .inService).length ++
        u8 (a.entries.filter fun e => e.state = .acknowledged).length ++ u8 a.chain.length ++
        u8 (a.chain.getLast?.elim 0 AttnKind.code) ++
        u24 ((AttnKind.all.filter a.mask.contains).map fun x => 2 ^ (23 - x.code)).sum ++
        u8 a.threshold ++
        flagByte
          (decide (h.reports.list ≠ []) ||
            a.entries.any fun e =>
              decide (e.state = .pending) && decide (e.kind.priority ≤ a.threshold) &&
                (decide (e.kind ∉ a.mask) || decide (e.kind.cls = .prompt))) ∧
    (∀ i : Fin 6,
      let x :=
        [h.sensors.cavity, h.sensors.generator, h.sensors.probe1, h.sensors.probe2,
          h.sensors.probe3, h.sensors.moisture].getD i.val h.sensors.cavity
      field (180 + 3 * i.val) 3 =
        u8 ([Validity.starting, .valid, .invalid].idxOf x.validity) ++
          (if i.val = 5 then (match x.last with | some v => u16 v.toNat | none => u16 0xFFFF)
           else temp? x.last)) ∧
    field 198 7 =
      temp? (if h.sensors.cavity.validity = .valid then some (mean h.sensors.cavity) else none) ++
        u8? (if h.sensors.moisture.validity = .valid then some (mean h.sensors.moisture).toNat
          else none) ++
        temp? (if w.plug.deb = true then
            (([h.sensors.probe1, h.sensors.probe2, h.sensors.probe3].filter fun x =>
              decide (x.validity = .valid)).filterMap Analog.last).min?
          else none) ++
        setByte
          [w.contactA.deb, w.contactB.deb, w.contactA.deb || w.contactB.deb, w.disagree,
           w.tank.deb, w.plug.deb] ++
        setByte [w.eLow.deb, w.eNormal.deb, w.eHigh.deb] ∧
    field 205 2 =
      u8? (if h.silence.running = true then some (h.silence.ms / 1000) else none) ++
        flagByte h.silence.mark

/-- Before the end of start-up, from a mains loss on, under the RESET line and during a flush, a
frame of any KIND and a byte on the line change nothing. For the flush of a RESTART that is the
model's choice (log 18: R180 says nothing of it). At a receiving part not in standby: a failed CHECK
and a LEN out of range drop the frame; a gap, a break and a bad stop bit drop the frame in progress,
and drop nothing in HUNT. A drop returns the receiver to HUNT and sets the dropped flag, or, while a
reply is owed, marks it to be set again (log 14). Nothing else changes. -/
def Obligations.LineFaultsDropTheFrame : Prop :=
  (∀ (kind : Byte) (p : Payload) (x : Byte) (s : State), receiving s.toBlock = false →
    exec (commandOf kind p) s = .next s ∧ exec (.byteReceived x) s = .next s) ∧
  (∀ s : State, receiving s.toBlock = true → s.life.power ≠ .standby →
    let dropped : State := s.withBlock
      (setLink
        { s.link with
          rx := .hunt, len := 0, buf := [], check := []
          dropped := s.link.dropped || s.link.owed.isNone
          droppedAgain := s.link.droppedAgain || s.link.owed.isSome } s.toBlock)
    let cut : State := if s.link.rx = .hunt then s else dropped
    exec .frameCheckFailed s = .next dropped ∧ exec .lenOutOfRange s = .next dropped ∧
    exec .interbyteGapTimeout s = .next cut ∧ exec .lineBreak s = .next cut ∧
    exec .badStopBit s = .next cut)

/-- At a part at work: RESTART is answered OK and marks the link. When the reply owed has been sent,
no reply is owed, and the dropped flag becomes what the drops made while it was owed say (the
model's reading, log 14). If it was RESTART's, every load is held off under MAINS_LOSS (the model's
choice, log 18), both transfers are no longer in flight, and the flush of every write begins;
otherwise only the link changes. With no reply owed the event changes nothing. -/
def Obligations.ReplySentFreesTheLink : Prop :=
  (∀ s : State, Answers s →
    exec (.restart []) s =
      .next (s.withBlock
        (replied 0x03#8 .ok []
          (setLink { (heard s.toBlock).link with restart := true } (heard s.toBlock))))) ∧
  (∀ s : State, live s.toBlock = true → s.link.owed = none → exec .replySent s = .next s) ∧
  (∀ s : State, live s.toBlock = true → s.link.owed.isSome = true → s.link.restart = false →
    exec .replySent s =
      .next (s.withBlock
        (setLink
          { s.link with
            owed := none, dropped := s.link.droppedAgain, droppedAgain := false }
          s.toBlock))) ∧
  ∀ s : State, live s.toBlock = true → s.link.owed.isSome = true → s.link.restart = true →
    ∃ t, exec .replySent s = .next t ∧ t.link.owed = none ∧ t.life.flush = .restart ∧
      t.fill.inFlight = false ∧ t.drain.inFlight = false ∧
      (∀ l, (t.share.loads.get l).locks.mainsLoss = true) ∧
      t.gen.state = s.gen.state ∧ t.descale.kept = s.descale.kept ∧
      t = { s with
        life := t.life, share := t.share, gen := t.gen, fill := t.fill, drain := t.drain
        descale := t.descale, attn := t.attn, store := t.store, link := t.link }

/-- At a part that handles requests, with the climate OFF, no run RUNNING, no descale and no
generator FAULT: with the generator IDLE the part is in STANDBY, every load holds the STANDBY
interlock, the grants are 0, the window timer is stopped, the lamp mark is clear and the silence
timer stopped; the reply carries the power state. With the generator COOLING or DRAINING the request
waits, and nothing but the power state and the reply changes. If a condition is missing the request
is refused with REFUSED_STATE. In standby, at a receiving part: a byte with a good stop bit makes
the part AWAKE with the wake cause LINK, takes the STANDBY interlock from every load, starts the
window timer, and is received in HUNT: SYNC begins a frame, any other byte is discarded (a frame
still in progress at the entry to standby is forgotten without the dropped flag: the model's choice,
log 49). The climate, the generator, the channels, the runs, the attention list and the store are
unchanged. -/
def Obligations.StandbyIsEnteredAndLeft : Prop :=
  (∀ s : State, Answers s →
    (standbyAllowed (heard s.toBlock) = false →
      exec (.standby []) s =
        .next (s.withBlock (replied 0x04#8 .refusedState [] (heard s.toBlock)))) ∧
    (standbyAllowed (heard s.toBlock) = true →
      s.gen.state = .cooling ∨ s.gen.state = .draining →
      exec (.standby []) s =
        .next (s.withBlock
          (replied 0x04#8 .ok [1#8]
            (setLife { (heard s.toBlock).life with power := .standbyRequested }
              (heard s.toBlock))))) ∧
    (standbyAllowed (heard s.toBlock) = true → s.gen.state = .idle →
      ∃ t, exec (.standby []) s = .next t ∧ t.life.power = .standby ∧
        (∀ l, (t.share.loads.get l).locks.standby = true ∧ (t.share.loads.get l).applied = 0) ∧
        t.share.grants = ⟨0, 0, 0, 0⟩ ∧ t.share.windowTimer = false ∧
        t.climate.lampMark = false ∧ t.silence.running = false ∧
        t.link.owed = some ⟨0x84#8, [statusByte .ok s.link.dropped, 2#8]⟩ ∧
        t = s.withBlock { heard s.toBlock with
          life := t.life, climate := t.climate, share := t.share, store := t.store
          link := t.link, silence := t.silence } ∧
        t.climate = { (heard s.toBlock).climate with lampMark := false } ∧
        t.share.requests = (heard s.toBlock).share.requests)) ∧
  (∀ (x : Byte) (s : State), receiving s.toBlock = true → s.life.power = .standby →
    ∃ t, exec (.standbyByteReceived x) s = .next t ∧
      t.life = { s.life with power := .awake, wake := some .link } ∧
      (∀ l, (t.share.loads.get l).locks = { (s.share.loads.get l).locks with standby := false }) ∧
      t.share.windowTimer = true ∧ t.share.grants = s.share.grants ∧
      t.share.requests = s.share.requests ∧
      t.link = { s.link with
        rx := if x = 0x5A#8 then .length else .hunt, len := 0, buf := [], check := [] } ∧
      t.silence = ⟨silenceCondition s.toBlock, 0, false⟩ ∧
      t = { s with life := t.life, share := t.share, link := t.link, silence := t.silence })

/-- At a part at work with the silence timer running, and its mark clear or its count still at 5 s
or below (a mark kept from an earlier 120 s), the 5 s event sets the mark; SILENT joins the holds of
a run, and as the first of PAUSE, SILENT and POWER adds RUN_HOLD to the climate's reasons; with one
of them held, or in a REST step, climate, output stage and generator stay (REST: R125 as log 9 reads
it). With no run SILENT joins the reasons of a climate ACTIVE or SUSPENDED; else nothing is added.
An ACTIVE climate whose reasons one joins is SUSPENDED, with its element rows at 0 W and a demand of
0. At the 120 s event a run ends, its context cleared, and with no run an ACTIVE or SUSPENDED
climate enters OFF, its element rows at 0 W and its demand 0; the timer stops with the mark set.
(The elapsed values shown at the two events are the model's, log 1.) -/
def Obligations.SilenceActs : Prop :=
  (∀ s : State, live s.toBlock = true → s.silence.running = true →
    s.silence.mark = false ∨ s.silence.ms ≤ 5000 →
    ∃ t, exec .silence5s s = .next t ∧ t.silence = ⟨true, 5000, true⟩ ∧
      (s.run.state ≠ .idle →
        t.run = { s.run with hold := { s.run.hold with silent := true } } ∧
        (s.run.hold.pause = false → s.run.hold.silent = false → s.run.hold.power = false →
          inRest s.toBlock = false →
          ReasonJoined { s.climate.reasons with runHold := true } s.toBlock t) ∧
        (s.run.hold.pause = true ∨ s.run.hold.silent = true ∨ s.run.hold.power = true ∨
            inRest s.toBlock = true →
          t.climate = s.climate ∧ t.share = s.share ∧ t.gen = s.gen)) ∧
      (s.run.state = .idle → s.climate.state = .active ∨ s.climate.state = .suspended →
        ReasonJoined { s.climate.reasons with silent := true } s.toBlock t ∧ t.run = s.run) ∧
      (s.run.state = .idle → s.climate.state = .off ∨ s.climate.state = .fault →
        t = s.withBlock (setSilence ⟨true, 5000, true⟩ s.toBlock)) ∧
      t = { s with
        silence := t.silence, run := t.run, climate := t.climate, share := t.share, gen := t.gen }) ∧
  ∀ s : State, live s.toBlock = true → s.silence.running = true →
    ∃ t, exec .silence120s s = .next t ∧ t.silence = ⟨false, 120000, true⟩ ∧
      (s.run.state ≠ .idle → t.run = .cleared ∧ t.climate.source = .link) ∧
      (s.run.state = .idle → s.climate.state = .active ∨ s.climate.state = .suspended →
        t.climate.state = .off ∧ t.share.requests.ring.watts = 0 ∧
        t.share.requests.top.watts = 0 ∧ t.share.requests.bottom.watts = 0 ∧ t.gen.demand = 0 ∧
        t.run = s.run ∧ t.reports = s.reports) ∧
      (s.run.state = .idle → s.climate.state = .off ∨ s.climate.state = .fault →
        t = s.withBlock (setSilence ⟨false, 120000, true⟩ s.toBlock)) ∧
      t = { s with
        silence := t.silence, run := t.run, climate := t.climate, share := t.share, gen := t.gen
        fill := t.fill, attn := t.attn, store := t.store, reports := t.reports, life := t.life }

/-- Whatever the part's state: after a frame is heard, SILENT stands neither in the run's holds nor
in the climate's reasons, the silence timer runs from 0 exactly if its condition holds, with the
mark clear, the receiver is in HUNT, and a part in standby is AWAKE with the wake cause LINK. With
no SILENT standing and the part not in standby nothing else changes; in any case the clock, the
settings, the sensors and switches, the channels, the descaling block, the reports, the attention
list and the store are unchanged. -/
def Obligations.HeardFrameRemovesSilence : Prop :=
  ∀ b : Block,
    (heard b).run.hold.silent = false ∧ (heard b).climate.reasons.silent = false ∧
    (heard b).silence = ⟨silenceCondition b, 0, false⟩ ∧
    (heard b).link = { b.link with rx := .hunt, len := 0, buf := [], check := [] } ∧
    (heard b).life =
      (if b.life.power = .standby then { b.life with power := .awake, wake := some .link }
       else b.life) ∧
    (b.run.hold.silent = false → b.climate.reasons.silent = false → b.life.power ≠ .standby →
      heard b =
        setLink { b.link with rx := .hunt, len := 0, buf := [], check := [] }
          (setSilence ⟨silenceCondition b, 0, false⟩ b)) ∧
    (heard b).clock = b.clock ∧ (heard b).settings = b.settings ∧
    (heard b).sensors = b.sensors ∧ (heard b).switches = b.switches ∧
    (heard b).fill = b.fill ∧ (heard b).drain = b.drain ∧ (heard b).descale = b.descale ∧
    (heard b).reports = b.reports ∧ (heard b).attn = b.attn ∧ (heard b).store = b.store

/-- At a part that handles requests: the first of wrong length, no such mode or bias, a descale, a
run, a set overtemperature latch refuses the request, with nothing else changed. Otherwise (the
climate not in FAULT) the five values are clamped and held (a Ts of 0x8000 as the number −32768: the
model's choice, log 41), the source is LINK and the lamp mark clear; a climate OFF becomes ACTIVE,
or SUSPENDED if a reason stands, with integral and output 0 and the period timer running; any other
keeps its state, and its integral unless the mode or Ts (by more than 10.0 °C) changes. Steam-wanted
follows the mode where the state or mode changes. The reply carries the five values. Clock,
settings, sensors, switches, runs, reports and the descaling block stay; with the mode kept, so do
the requests and the generator. -/
def Obligations.ClimateSetIsTaken : Prop :=
  (∀ (p : Payload) (s : State), Answers s → ∀ st : Status,
    (if p.length ≠ 6 then some .badLength
     else if climateFields p = none then some .invalid
     else if s.descale.kept.phase ≠ .idle then some .descaleActive
     else if s.run.state ≠ .idle then some .runOwns
     else if s.climate.overtemp = true then some .refusedState else none) = some st →
    exec (.climateSet p) s = .next (s.withBlock (replied 0x10#8 st [] (heard s.toBlock)))) ∧
  ∀ (p : Payload) (s : State), Answers s → p.length = 6 →
    ∀ f : ClimateFields, climateFields p = some f → s.descale.kept.phase = .idle → s.run.state = .idle →
    s.climate.overtemp = false → s.climate.state ≠ .fault →
    let c := (heard s.toBlock).climate
    ∃ t, exec (.climateSet p) s = .next t ∧
      t.climate.mode = f.mode ∧
      t.climate.ts = clampInt f.mode.tsRange.1 f.mode.tsRange.2 f.ts ∧
      (t.climate.ms : Int) = clampInt 10 90 f.ms ∧ (t.climate.fan : Int) = clampInt 1 5 f.fan ∧
      t.climate.bias = f.bias ∧ t.climate.source = .link ∧ t.climate.lampMark = false ∧
      t.climate.reasons = c.reasons ∧
      t.climate.state =
        (if c.state = .off then (if c.reasons.any then .suspended else .active) else c.state) ∧
      t.climate.integral =
        (if c.state = .off ∨ f.mode ≠ c.mode ∨ 100 < (t.climate.ts - c.ts).natAbs then 0
         else c.integral) ∧
      (c.state = .off ∨ f.mode ≠ c.mode → t.climate.steamWanted = f.mode.isSteam) ∧
      (c.state = .off → t.climate.u = 0 ∧ t.climate.shortfall = false ∧
        t.climate.openLoop = false ∧ t.climate.periodTimer = true) ∧
      (c.state ≠ .off → t.climate.u = c.u ∧ t.climate.periodTimer = c.periodTimer) ∧
      (c.state ≠ .off → f.mode = c.mode → t.share.requests = (heard s.toBlock).share.requests ∧
        t.gen = (heard s.toBlock).gen) ∧
      t.link.owed = some ⟨0x90#8, statusByte .ok s.link.dropped :: climateBytes t.climate⟩ ∧
      t = s.withBlock { heard s.toBlock with
        climate := t.climate, share := t.share, gen := t.gen, fill := t.fill, attn := t.attn
        store := t.store, link := t.link, silence := t.silence, life := t.life }

/-- At a part that handles requests, with no overtemperature, no descale and no run: a climate
already OFF is answered OK and left as it is; an ACTIVE or SUSPENDED one enters OFF: element rows 0
W, demand 0, steam-wanted and the open-loop flag clear, the period timer stopped, the flap commanded
OPEN, RUN_HOLD and SILENT out of the reasons, the setting kept. With the overtemperature latch set,
a cavity valid and at or below 200.0 °C clears the latch and the OVERTEMP interlock, and a climate
in FAULT enters OFF; else the request is refused with REFUSED_STATE and nothing else changes.
Without the latch a descale in progress refuses it with DESCALE_ACTIVE, and a run with RUN_OWNS. -/
def Obligations.ClimateOffIsTaken : Prop :=
  (∀ s : State, Answers s → s.climate.overtemp = false → s.descale.kept.phase ≠ .idle →
    exec (.climateOff []) s =
      .next (s.withBlock (replied 0x11#8 .descaleActive [] (heard s.toBlock)))) ∧
  (∀ s : State, Answers s → s.climate.overtemp = false → s.descale.kept.phase = .idle →
    s.run.state ≠ .idle →
    exec (.climateOff []) s =
      .next (s.withBlock (replied 0x11#8 .runOwns [] (heard s.toBlock)))) ∧
  (∀ s : State, Answers s → s.climate.overtemp = false → s.descale.kept.phase = .idle →
    s.run.state = .idle →
    (s.climate.state = .off →
      exec (.climateOff []) s = .next (s.withBlock (replied 0x11#8 .ok [] (heard s.toBlock)))) ∧
    (s.climate.state = .active ∨ s.climate.state = .suspended →
      ∃ t, exec (.climateOff []) s = .next t ∧ t.climate.state = .off ∧
        t.climate.steamWanted = false ∧ t.climate.periodTimer = false ∧
        t.climate.openLoop = false ∧
        t.climate.flap = (heard s.toBlock).climate.flap.toOpen ∧
        t.climate.reasons =
          { (heard s.toBlock).climate.reasons with runHold := false, silent := false } ∧
        t.climate.mode = s.climate.mode ∧ t.climate.ts = s.climate.ts ∧
        t.climate.ms = s.climate.ms ∧ t.climate.fan = s.climate.fan ∧
        t.climate.bias = s.climate.bias ∧
        t.share.requests.ring.watts = 0 ∧ t.share.requests.top.watts = 0 ∧
        t.share.requests.bottom.watts = 0 ∧ t.gen.demand = 0 ∧
        t.link.owed = some ⟨0x91#8, [statusByte .ok s.link.dropped]⟩ ∧
        t = s.withBlock { heard s.toBlock with
          climate := t.climate, share := t.share, gen := t.gen, fill := t.fill, attn := t.attn
          store := t.store, link := t.link, silence := t.silence, life := t.life })) ∧
  ∀ s : State, Answers s → s.climate.overtemp = true →
    (cavityCooled s.toBlock = false →
      exec (.climateOff []) s =
        .next (s.withBlock (replied 0x11#8 .refusedState [] (heard s.toBlock)))) ∧
    (cavityCooled s.toBlock = true →
      ∃ t, exec (.climateOff []) s = .next t ∧ t.climate.overtemp = false ∧
        t.share.loads.ring.locks.overtemp = false ∧ t.share.loads.top.locks.overtemp = false ∧
        t.share.loads.bottom.locks.overtemp = false ∧
        t.climate.state =
          (if (heard s.toBlock).climate.state = .fault then .off
           else (heard s.toBlock).climate.state) ∧
        t.link.owed = some ⟨0x91#8, [statusByte .ok s.link.dropped]⟩ ∧
        t = s.withBlock { heard s.toBlock with
          climate := t.climate, share := t.share, gen := t.gen, fill := t.fill, attn := t.attn
          store := t.store, link := t.link, silence := t.silence, life := t.life })

/-- In a part at work with the period timer running and the climate ACTIVE: the shortfall mark, the
error, the integral (held in the three cases of R15, clamped to ±20000), the output (clamped to 0 to
1000), the three element rows with the bias's priority, and the generator's demand and priority are
those of R14 to R18; a HEATING or READY generator's row follows them; in COMBI the open-loop flag
follows the moisture channel and the flap is commanded by R21. A dry mode leaves the generator's
priority (the model's choice, log 7). Nothing else of the part changes. In every other climate
state, or with the timer stopped, the expiry changes nothing. -/
def Obligations.ControlPeriodComputes : Prop :=
  (∀ s : State, live s.toBlock = true → s.climate.periodTimer = true →
    s.climate.state = .active → ∀ tm : Int, measuredTm s.toBlock = some tm →
    let c := s.climate
    let mm := moistureReading s.toBlock
    let e := clampInt (-500) 500 (c.ts - tm)
    let short := decide (s.share.grants.ring + s.share.grants.top + s.share.grants.bottom <
      s.share.requests.ring.watts + s.share.requests.top.watts + s.share.requests.bottom.watts)
    let i :=
      clampInt (-20000) 20000
        (if (c.u = 1000 ∧ 0 < e) ∨ (c.u = 0 ∧ e < 0) ∨ (short = true ∧ 0 < e) then c.integral
         else c.integral + e)
    let u := (clampInt 0 1000 ((c.mode.kp * e).tdiv 16 + (c.mode.ki * i).tdiv 256)).toNat
    let row : Load → Row := fun l =>
      ⟨u * c.mode.shares.get l / 100 * (rating s.straps.cavity).get l / 1000,
        match c.bias with | .dflt => 2 | .heatFirst => 1 | .steamFirst => 3⟩
    let demand : Nat :=
      match c.mode, mm with
      | .steam, _ => u
      | .combi, some m => (clampInt 0 1000 (25 * (c.ms - m))).toNat
      | .combi, none => c.ms * 10
      | _, _ => 0
    let prio : Nat :=
      match c.mode, c.bias with
      | .steam, .dflt | .steam, .steamFirst | .combi, .steamFirst => 1
      | .combi, .dflt => 2
      | .steam, .heatFirst | .combi, .heatFirst => 3
      | _, _ => s.gen.prio
    let opened : Flap := if c.flap = .isOpen then .isOpen else .movingOpen
    let closed : Flap := if c.flap = .isClosed then .isClosed else .movingClosed
    let flap : Flap :=
      match c.mode, mm with
      | .combi, none => closed
      | .combi, some m =>
        if (c.ms : Int) + 5 ≤ m then opened else if m ≤ (c.ms : Int) then closed else c.flap
      | _, _ => c.flap
    exec .controlPeriodExpiry s =
      .next { s with
        climate :=
          { c with
            shortfall := short, integral := i, u := u, flap := flap
            openLoop := decide (c.mode = .combi) && mm.isNone }
        gen := { s.gen with demand := demand, prio := prio }
        share :=
          { s.share with
            requests :=
              { ring := row .ring, top := row .top, bottom := row .bottom
                gen :=
                  match s.gen.state with
                  | .heating => ⟨(rating s.straps.cavity).gen, prio⟩
                  | .ready => ⟨demand * (rating s.straps.cavity).gen / 1000, prio⟩
                  | _ => s.share.requests.gen } } }) ∧
  ∀ s : State, ¬ (s.climate.periodTimer = true ∧ s.climate.state = .active) →
    exec .controlPeriodExpiry s = .next s

/-- In a part at work, a flap MOVING toward OPEN or CLOSED and not held is, at its travel's end,
OPEN at 4000 ms or CLOSED at 0 ms, and nothing else changes. A flap at rest, or held in standby,
changes nothing. -/
def Obligations.FlapTravelEnds : Prop :=
  ∀ s : State, live s.toBlock = true →
    (s.climate.flap = .movingOpen → s.life.power ≠ .standby →
      exec .flapTravelEnd s =
        .next (s.withBlock
          (setClimate { s.climate with flap := .isOpen, flapPos := 4000 } s.toBlock))) ∧
    (s.climate.flap = .movingClosed → s.life.power ≠ .standby →
      exec .flapTravelEnd s =
        .next (s.withBlock
          (setClimate { s.climate with flap := .isClosed, flapPos := 0 } s.toBlock))) ∧
    (s.climate.flap = .isOpen ∨ s.climate.flap = .isClosed ∨ s.life.power = .standby →
      exec .flapTravelEnd s = .next s)

/-- At a part that handles requests and whose store rests: a BUDGET SET of three bytes clamps the
budget to 1200 W to the mains class maximum and the shed level to 0 to 7, stores both, queues a
SETTINGS write of the settings as they then stand (in the place of a pending one), and replies OK
with both values. The grants of the window in progress and everything else stay. At a part that
handles requests and whose store rests: an edge or a lamp code above 1 is refused with INVALID. That
the lamp code is clear 0 and set 1 is the model's choice (log 44: R176 names clear nor set, the
table of 10.4 lists set, clear). Otherwise the ten values are clamped and stored, a SETTINGS write
of them is queued and they are echoed; a changed flow-meter constant sets r_w to 0 and queues a
SCALE write, a changed prescale sets the divider to 0. SETTINGS READ answers the fourteen bytes and
changes nothing. -/
def Obligations.SettingsAreWrittenClamped : Prop :=
  (∀ (p : Payload) (s : State), Answers s → StoreServed s.toBlock → p.length = 3 →
    let v : Settings :=
      { s.settings with
        budget := max 1200 (min (budgetMax s.straps.mains) (wordAt p 0))
        shed := min 7 (byteAt p 2) }
    exec (.budgetSet p) s =
      .next (s.withBlock
        (serveStore
          (replied 0x18#8 .ok (u16 v.budget ++ u8 v.shed)
            (queueWrite (.settings v) (setSettings v (heard s.toBlock))))))) ∧
  (∀ (p : Payload) (s : State), Answers s →
    let h := heard s.toBlock
    exec (.settingsRead []) s =
      .next (s.withBlock (replied 0x69#8 .ok (settingsBytes s.settings) h)) ∧
    (p.length = 14 → (2 ≤ byteAt p 7 ∨ 2 ≤ byteAt p 13) →
      exec (.settingsWrite p) s = .next (s.withBlock (replied 0x68#8 .invalid [] h))) ∧
    (StoreServed s.toBlock → p.length = 14 → byteAt p 7 < 2 → byteAt p 13 < 2 →
      let v : Settings :=
        { budget := max 1200 (min (budgetMax s.straps.mains) (wordAt p 0))
          shed := min 7 (byteAt p 2)
          hardness := min 500 (wordAt p 3)
          kf := max 500 (min 5000 (wordAt p 5))
          edge := if byteAt p 7 = 0 then .rising else .falling
          prescale :=
            if 8 ≤ byteAt p 8 then 8 else if 4 ≤ byteAt p 8 then 4
            else if 2 ≤ byteAt p 8 then 2 else 1
          agentClass := max 1 (min 3 (byteAt p 9))
          resumeWindow := min 30 (byteAt p 10)
          offset := max (-50) (min 50 (signedAt p 11))
          lampCooking := decide (byteAt p 13 = 1) }
      let withKf :=
        if v.kf = s.settings.kf then h
        else queueWrite (.scale { s.gen.account with rw := 0 })
          (setGen { h.gen with account := { s.gen.account with rw := 0 } } h)
      let withPrescale :=
        if v.prescale = s.settings.prescale then withKf
        else setChannel .fill { s.fill with divider := 0 } withKf
      exec (.settingsWrite p) s =
        .next (s.withBlock
          (serveStore
            (replied 0x68#8 .ok (settingsBytes v)
              (queueWrite (.settings v) (setSettings v withPrescale)))))))

/-- In a part at work with the window timer running: F is the sum of the ratings of the fixed loads
running now, the electronics' 15 W always: the fan's (60 W FULL, 45 W COMPACT) in ACTIVE of
FAN_BAKE, FAN_GRILL, STEAM and COMBI, the lamp's 25 W while the door reads open, in ACTIVE with
lamp-with-cooking set, or with the run-end lamp mark, and 30 W for each pump whose channel is
ACTIVE; none but the electronics runs in standby. The grants are R34's for B, F, the shed level and
the requests (GrantsFitTheBudgetAndFireExactly says which they are); each load's applied power is
rating × fired / counted, 0 with none counted, and its counts and accumulator are 0. Requests,
interlocks and everything outside the power sharing block stay. With the timer stopped nothing
changes. -/
def Obligations.WindowTakesGrants : Prop :=
  (∀ s : State, live s.toBlock = true → s.share.windowTimer = true →
    ∃ t, exec .allocationWindowExpiry s = .next t ∧
      t.share.fixed =
        (if s.life.power = .standby then 0
         else
          (if s.climate.state = .active ∧
              s.climate.mode ∈ [Mode.fanBake, .fanGrill, .steam, .combi] then
            (match s.straps.cavity with | .full => 60 | .compact => 45)
           else 0) +
          (if s.switches.contactA.deb = true ∨ s.switches.contactB.deb = true ∨
              (s.settings.lampCooking = true ∧ s.climate.state = .active) ∨
              s.climate.lampMark = true then 25 else 0) +
          (if s.fill.state = .active then 30 else 0) +
          (if s.drain.state = .active then 30 else 0)) + 15 ∧
      t.share.grants =
        allocate s.settings.budget t.share.fixed s.settings.shed s.share.requests ∧
      (∀ l, t.share.loads.get l =
        { s.share.loads.get l with
          applied :=
            (if (s.share.loads.get l).counted = 0 then 0
             else (rating s.straps.cavity).get l * (s.share.loads.get l).fired /
               (s.share.loads.get l).counted)
          counted := 0, fired := 0, acc := 0 }) ∧
      t.share.requests = s.share.requests ∧ t.share.windowTimer = true ∧
      t = s.withBlock (setShare t.share s.toBlock)) ∧
  ∀ s : State, s.share.windowTimer = false → exec .allocationWindowExpiry s = .next s

/-- For every budget, fixed allowance, shed level and request table: the four grants add up to at
most max(0, B − F); no grant exceeds its row's request; a row whose priority is above the shed level
gets 0 W; and where the rows at or below the shed level together ask for no more than B − F, each of
them gets its request in full. With R the watts that the lower levels leave of max(0, B − F), a
level whose sum is at most R gets its requests in full; each row of the first level whose sum S is
above R gets its request × R / S, truncated; each row of a later level gets 0 W. For every rating
above 0 and every grant up to it: from an accumulator of 0 with nothing fired and no interlock, n
half-cycles fire exactly n × grant / rating of them, truncated, and leave the accumulator below the
rating. -/
def Obligations.GrantsFitTheBudgetAndFireExactly : Prop :=
  (∀ (budget fixed shed : Nat) (rows : PerLoad Row),
    let g := allocate budget fixed shed rows
    let asked := fun l : Load => if (rows.get l).prio ≤ shed then (rows.get l).watts else 0
    g.ring + g.top + g.bottom + g.gen ≤ budget - fixed ∧
    (∀ l, g.get l ≤ (rows.get l).watts) ∧
    (∀ l, shed < (rows.get l).prio → g.get l = 0) ∧
    (asked .ring + asked .top + asked .bottom + asked .gen ≤ budget - fixed →
      ∀ l, (rows.get l).prio ≤ shed → g.get l = (rows.get l).watts) ∧
    ∀ l, (rows.get l).prio ≤ shed →
      let w := (rows.get l).watts
      let p := (rows.get l).prio
      let total : (Nat → Bool) → Nat := fun level =>
        ([Load.ring, .top, .bottom, .gen].map fun m =>
          if level (rows.get m).prio then (rows.get m).watts else 0).sum
      let below := total fun q => decide (q < p)
      let here := total fun q => decide (q = p)
      (below + here ≤ budget - fixed → g.get l = w) ∧
      (below ≤ budget - fixed → budget - fixed < below + here →
        g.get l = w * (budget - fixed - below) / here) ∧
      (budget - fixed < below → g.get l = 0)) ∧
  (∀ (rated grant n : Nat) (o : LoadOut), 0 < rated → grant ≤ rated → o.locks.isClear = true →
    o.acc = 0 → o.fired = 0 →
    ((LoadOut.halfCycle true rated grant)^[n] o).fired = n * grant / rated ∧
      ((LoadOut.halfCycle true rated grant)^[n] o).acc < rated)

/-- In a part at work, at an accepted zero crossing, for each load: with an empty interlock set the
grant is added to the accumulator, and if the sum reaches the rating the half-cycle is fired and the
rating subtracted, else it is not fired; with an interlock standing it is not fired and the
accumulator stays. The half-cycle is counted while a window runs. Nothing outside the output stages
changes. -/
def Obligations.ZeroCrossingFires : Prop :=
  ∀ s : State, live s.toBlock = true →
    ∃ t, exec .zeroCrossing s = .next t ∧
      t = s.withBlock (setShare { s.share with loads := t.share.loads } s.toBlock) ∧
      ∀ l, let o := s.share.loads.get l
        let sum := o.acc + s.share.grants.get l
        let rated := (rating s.straps.cavity).get l
        let counted := if s.share.windowTimer = true then o.counted + 1 else o.counted
        (o.locks.isClear = true → rated ≤ sum →
          t.share.loads.get l =
            { o with
              acc := sum - rated, counted := counted, fired := o.fired + 1, firing := true }) ∧
        (o.locks.isClear = true → sum < rated →
          t.share.loads.get l = { o with acc := sum, counted := counted, firing := false }) ∧
        (o.locks.isClear = false →
          t.share.loads.get l = { o with counted := counted, firing := false })

/-- In a part at work, at the mains-loss event: every heating load holds the MAINS_LOSS interlock
and every fixed load but the electronics is held; both transfers have ended; the window and period
timers are stopped; no reply is owed; a write in flight goes on. The states of the generator, the
climate, the run and the descaling procedure, the reports, the clock and the settings stay. -/
def Obligations.MainsLossSwitchesOff : Prop :=
  ∀ s : State, live s.toBlock = true →
    ∃ t, exec .mainsLoss s = .next t ∧ t.life.mainsLost = true ∧ t.life.flush = .mains ∧
      (∀ l, (t.share.loads.get l).locks.mainsLoss = true) ∧ fixedLoadsHeld t.toBlock = true ∧
      t.fill.inFlight = false ∧ t.drain.inFlight = false ∧
      t.share.windowTimer = false ∧ t.climate.periodTimer = false ∧ t.link.owed = none ∧
      (s.store.inFlight.isSome = true → t.store.inFlight = s.store.inFlight) ∧
      t.gen.state = s.gen.state ∧ t.climate = { s.climate with periodTimer := false } ∧
      t.descale.kept = s.descale.kept ∧
      t = { s with
        life := t.life, climate := t.climate, share := t.share, gen := t.gen, fill := t.fill
        drain := t.drain, descale := t.descale, attn := t.attn, store := t.store, link := t.link }

/-- At a part that handles requests: a generator in IDLE or WAIT_WATER sets the service-drain mark,
enters COOLING with its row at 0 W, and the reply is OK; in any other state the request is refused
with BUSY. Nothing else changes. At a part that handles requests: a generator not in FAULT, or one
whose wall is above 110.0 °C or not known, refuses with REFUSED_STATE and nothing else changes.
Otherwise the latch and the DRY_FIRE interlock are cleared; the generator is in DESCALE with a
procedure in progress, and IDLE without one if steam is not wanted. The run, the reports, the clock,
the settings, the sensors and the switches stay. -/
def Obligations.GeneratorCommandsAreTaken : Prop :=
  (∀ s : State, Answers s →
    (s.gen.state = .idle ∨ s.gen.state = .waitWater →
      exec (.generatorDrain []) s =
        .next (s.withBlock
          (replied 0x20#8 .ok []
            (writeGenRow 0 s.share.requests.gen.prio
              (setGen { (heard s.toBlock).gen with serviceDrain := true, state := .cooling }
                (heard s.toBlock)))))) ∧
    (s.gen.state ≠ .idle → s.gen.state ≠ .waitWater →
      exec (.generatorDrain []) s =
        .next (s.withBlock (replied 0x20#8 .busy [] (heard s.toBlock))))) ∧
  (∀ s : State, Answers s →
    (s.gen.state ≠ .fault ∨ wallCooled s.toBlock = false →
      exec (.generatorClear []) s =
        .next (s.withBlock (replied 0x21#8 .refusedState [] (heard s.toBlock)))) ∧
    (s.gen.state = .fault → wallCooled s.toBlock = true →
      ∃ t, exec (.generatorClear []) s = .next t ∧ t.gen.dryFire = false ∧
        t.share.loads.gen.locks.dryFire = false ∧
        (s.descale.kept.phase ≠ .idle → t.gen.state = .descale) ∧
        (s.descale.kept.phase = .idle → s.climate.steamWanted = false → t.gen.state = .idle) ∧
        t.link.owed = some ⟨0xA1#8, [statusByte .ok s.link.dropped]⟩ ∧
        t = s.withBlock { heard s.toBlock with
          life := t.life, climate := t.climate, share := t.share, gen := t.gen, fill := t.fill
          drain := t.drain, descale := t.descale, attn := t.attn, store := t.store
          link := t.link, silence := t.silence }))

/-- For every fill of P pulses, constants Kf above 0 and H, and account: the water w and the new r_w
satisfy w × Kf + r_w' = P × 1000 + r_w with r_w' below Kf; the scale a and the new r_s satisfy a ×
1000 + r_s' = w × H + r_s with r_s' below 1000; and S becomes S + a, or 200 000 if that is less. -/
def Obligations.FillAccountLosesNothing : Prop :=
  ∀ (v : Settings) (pulses : Nat) (a : ScaleRec), 0 < v.kf →
    let w := (pulses * 1000 + a.rw) / v.kf
    let mg := (w * v.hardness + a.rs) / 1000
    w * v.kf + (a.addFill v pulses).rw = pulses * 1000 + a.rw ∧ (a.addFill v pulses).rw < v.kf ∧
    mg * 1000 + (a.addFill v pulses).rs = w * v.hardness + a.rs ∧
    (a.addFill v pulses).rs < 1000 ∧ (a.addFill v pulses).scale = min 200000 (a.scale + mg)

/-- The decision: under the steam lock or with the wall channel not valid the generator is IDLE at 0
W; at NORMAL or HIGH it is HEATING at its full rating; at DRY or LOW it is FILLING at 0 W with a
fresh fill to NORMAL of at most 400 strokes, or, the claim refused, IDLE. It is made by a generator
in WAIT_WATER at a tank insertion and at the close of TANK_EMPTY, by one in FAULT at an accepted
GENERATOR CLEAR with steam wanted, by one in IDLE at a CLIMATE SET of a steam mode from OFF, and by
one in IDLE with steam wanted, after a refused service fill, at a change of level (that the refusal
is remembered is log 31's reading; that an IDLE generator has no fill of its own in flight is
premised, QueuesStaySound keeps it so). At that CLIMATE SET one in COOLING returns to HEATING, with
a refill at LOW, or to FILLING at DRY, unless the lock, a service drain or an unknown wall keeps it
in COOLING. -/
def Obligations.GeneratorEntersService : Prop :=
  let serviceFill : State → ChannelRec := fun t =>
    { state := if t.switches.tank.deb then .active else .paused
      owner := .generator, mode := .destSync, target := some .normal, limit := 400
      strokes := 0, runOn := none, flow := 0, noFlow := 0, divider := 0, pauseMs := 0
      endReason := none, levelAtEnd := none }
  let decided : Bool → State → State → Prop := fun free s t =>
    let locked : Bool :=
      s.descale.kept.rinseOwed || decide (lockThreshold s.straps.cavity ≤ s.gen.account.scale)
    let known : Bool := decide (s.sensors.generator.validity = .valid)
    let short : Bool := decide (t.gen.level = .dry) || decide (t.gen.level = .low)
    (locked = true ∨ known = false →
      t.gen.state = .idle ∧ t.share.requests.gen.watts = 0) ∧
    (locked = false → known = true → short = false →
      t.gen.state = .heating ∧
      t.share.requests.gen = ⟨(rating s.straps.cavity).gen, t.gen.prio⟩) ∧
    (locked = false → known = true → short = true → free = true →
      t.gen.state = .filling ∧ t.share.requests.gen.watts = 0 ∧
      t.gen.held = some .serviceFill ∧ t.fill = serviceFill t) ∧
    (locked = false → known = true → short = true → free = false →
      t.gen.state = .idle ∧ t.share.requests.gen.watts = 0)
  let mayFill : State → Bool := fun s => decide (s.fill.state = .idle) && !s.drain.inFlight
  (∀ s : State, live s.toBlock = true → s.life.settling = none → s.gen.state = .waitWater →
    s.switches.tank.deb = false → s.switches.tank.raw = true →
    ∃ t, exec .tankInsertion s = .next t ∧ decided (mayFill s) s t) ∧
  (∀ (x : Byte) (s : State), Answers s → s.gen.state = .waitWater →
    (s.attn.find .tankEmpty).any (fun e => decide (e.state ≠ .acknowledged)) = true →
    (x = 6#8 ∨ (x = 0#8 ∧ s.attn.chain.getLast? = some .tankEmpty)) →
    ∃ t, exec (.attentionClose [x]) s = .next t ∧ decided (mayFill s) s t) ∧
  (∀ s : State, Answers s → s.gen.state = .fault → wallCooled s.toBlock = true →
    s.descale.kept.phase = .idle → s.climate.steamWanted = true →
    ∃ t, exec (.generatorClear []) s = .next t ∧ decided (mayFill s) s t) ∧
  (∀ (e : Electrode) (wet : Bool) (s : State), live s.toBlock = true → s.life.settling = none →
    s.gen.state = .idle → s.gen.fillRefused = true → s.climate.steamWanted = true →
    (s.fill.inFlight = true → s.fill.owner ≠ .generator) →
    (switchOf s.switches (.electrode e)).deb ≠ wet →
    (switchOf s.switches (.electrode e)).raw = wet →
    ∃ t, exec (.electrodeChange e wet) s = .next t ∧
      (t.gen.level ≠ s.gen.level → decided (mayFill s) s t) ∧
      (t.gen.level = s.gen.level → t.gen = s.gen)) ∧
  ∀ (p : Payload) (s : State), Answers s → p.length = 6 → ∀ f : ClimateFields,
    climateFields p = some f → f.mode.isSteam = true → s.descale.kept.phase = .idle →
    s.run.state = .idle → s.climate.overtemp = false → s.climate.state = .off →
    s.climate.steamWanted = false →
    let locked : Bool :=
      s.descale.kept.rinseOwed || decide (lockThreshold s.straps.cavity ≤ s.gen.account.scale)
    let barred : Bool :=
      locked || s.gen.serviceDrain || decide (s.sensors.generator.validity ≠ .valid)
    ∃ t, exec (.climateSet p) s = .next t ∧ t.climate.steamWanted = true ∧
      (s.gen.state = .idle → decided (mayFill s) s t) ∧
      (s.gen.state = .cooling → barred = true →
        t.gen = s.gen ∧ t.share.requests.gen = s.share.requests.gen) ∧
      (s.gen.state = .cooling → barred = false → s.gen.level ≠ .dry →
        t.gen.state = .heating ∧
        t.share.requests.gen = ⟨(rating s.straps.cavity).gen, t.gen.prio⟩ ∧
        (s.gen.level = .low ∧ mayFill s = true →
          t.fill = serviceFill t ∧ t.gen.held = some .refill) ∧
        (s.gen.level ≠ .low ∨ mayFill s = false → t.fill = s.fill)) ∧
      (s.gen.state = .cooling → barred = false → s.gen.level = .dry →
        (mayFill s = true → t.gen.state = .filling ∧ t.share.requests.gen.watts = 0 ∧
          t.fill = serviceFill t) ∧
        (mayFill s = false → t.gen = s.gen ∧ t.fill = s.fill)) ∧
      (s.gen.state ≠ .idle → s.gen.state ≠ .cooling → t.gen = s.gen)

/-- The end of a fill the generator holds in FILLING, HEATING or READY is accounted (a SCALE write
queued), the channel released: if that brings the steam lock it is COOLING at 0 W; else at LEVEL a
filling one is HEATING at full rating and a serving one stays; else it is WAIT_WATER at 0 W. COUNT
and NO_FLOW raise TANK_EMPTY, SOURCE_LOST TANK_MISSING. In HEATING or READY a change to LOW claims a
refill unless one is in flight, and a change to DRY makes it FILLING at 0 W, with the refill in
flight or a fill claimed; a refused claim leaves generator and row as they were, so that the next
change to LOW or DRY claims again. -/
def Obligations.GeneratorKeepsItsWater : Prop :=
  let serviceFill : State → ChannelRec := fun t =>
    { state := if t.switches.tank.deb then .active else .paused
      owner := .generator, mode := .destSync, target := some .normal, limit := 400
      strokes := 0, runOn := none, flow := 0, noFlow := 0, divider := 0, pauseMs := 0
      endReason := none, levelAtEnd := none }
  let serves : State → Prop := fun s =>
    s.gen.state = .filling ∨ s.gen.state = .heating ∨ s.gen.state = .ready
  let filled : EndReason → State → State → Prop := fun e s t =>
    let locked : Bool :=
      s.descale.kept.rinseOwed || decide (lockThreshold s.straps.cavity ≤ t.gen.account.scale)
    t.gen.account = s.gen.account.addFill s.settings (s.fill.flow * s.settings.prescale) ∧
    .scale t.gen.account ∈ t.store.inFlight.toList ++ t.store.queue ∧ t.gen.held = none ∧
    t.fill =
      { s.fill with
        state := .idle, owner := .none, endReason := some e, levelAtEnd := some t.gen.level } ∧
    (locked = true → t.gen.state = .cooling ∧ t.share.requests.gen.watts = 0) ∧
    (locked = false → e = .level →
      (s.gen.state = .filling → t.gen.state = .heating ∧
        t.share.requests.gen = ⟨(rating s.straps.cavity).gen, t.gen.prio⟩) ∧
      (s.gen.state ≠ .filling → t.gen.state = s.gen.state ∧
        t.share.requests = s.share.requests)) ∧
    (locked = false → e ≠ .level →
      t.gen.state = .waitWater ∧ t.share.requests.gen.watts = 0) ∧
    (e = .count ∨ e = .noFlow → t.attn.has .tankEmpty = true) ∧
    (e = .sourceLost → t.attn.has .tankMissing = true) ∧
    t.drain = s.drain ∧ t.climate = s.climate ∧ t.run = s.run ∧ t.descale = s.descale
  (∀ s : State, live s.toBlock = true → serves s → s.fill.owner = .generator →
    (s.fill.state = .active → s.fill.noFlow = 20 →
      ∃ t, exec (.pacingExpiry .fill) s = .next t ∧ filled .noFlow s t) ∧
    (s.fill.state = .active → s.fill.noFlow ≠ 20 → s.fill.mode = .destSync →
      s.fill.strokes = s.fill.limit →
      ∃ t, exec (.pacingExpiry .fill) s = .next t ∧ filled .count s t) ∧
    (s.fill.state = .paused →
      ∃ t, exec (.pauseTimeout .fill) s = .next t ∧
        filled .sourceLost { s with fill := { s.fill with pauseMs := t.fill.pauseMs } } t)) ∧
  ∀ (e : Electrode) (wet : Bool) (s : State), live s.toBlock = true → s.life.settling = none →
    serves s → (switchOf s.switches (.electrode e)).deb ≠ wet →
    (switchOf s.switches (.electrode e)).raw = wet →
    let own : Bool :=
      s.fill.inFlight && decide (s.fill.owner = .generator) &&
        decide (s.fill.mode = .destSync) && decide (s.fill.target = some .normal)
    let mayFill : Bool := decide (s.fill.state = .idle) && !s.drain.inFlight
    ∃ t, exec (.electrodeChange e wet) s = .next t ∧
      (t.gen.level = s.gen.level → t.gen = s.gen ∧ t.fill = s.fill) ∧
      (t.gen.level ≠ s.gen.level →
        (own = true → t.gen.level = .normal ∨ t.gen.level = .high → filled .level s t) ∧
        (own = true → t.gen.level = .low →
          t.gen = { s.gen with level := .low } ∧ t.fill = s.fill) ∧
        (s.gen.state ≠ .filling →
          (own = true → t.gen.level = .dry →
            t.gen.state = .filling ∧ t.share.requests.gen.watts = 0 ∧
            t.gen.held = some .serviceFill ∧ t.fill = s.fill) ∧
          (mayFill = true → t.gen.level = .dry →
            t.gen.state = .filling ∧ t.share.requests.gen.watts = 0 ∧
            t.gen.held = some .serviceFill ∧ t.fill = serviceFill t) ∧
          (mayFill = true → t.gen.level = .low →
            t.gen = { s.gen with level := .low, held := some .refill } ∧
            t.share.requests = s.share.requests ∧ t.fill = serviceFill t) ∧
          (s.fill.inFlight = false →
            mayFill = false ∨ t.gen.level = .normal ∨ t.gen.level = .high →
            t.gen = { s.gen with level := t.gen.level } ∧
            t.share.requests = s.share.requests ∧ t.fill = s.fill)))

/-- At a sampling expiry past start-up, with no new overtemperature and no dry-fire: a valid wall
sample of 98.0 °C or more takes HEATING to READY and one below 94.0 °C READY to HEATING, the row
rewritten; one below 80.0 °C takes COOLING to DRAINING, with a fresh drain of at most 600 strokes,
unless the claim is refused; no other state follows the wall. When the channel becomes invalid,
FILLING, HEATING and READY become COOLING at 0 W, a fill in flight stopped, accounted and released.
When it becomes valid, an IDLE generator with steam wanted makes the service start decision, and a
COOLING one drains at that sample. -/
def Obligations.GeneratorFollowsTheWall : Prop :=
  let serviceFill : State → ChannelRec := fun t =>
    { state := if t.switches.tank.deb then .active else .paused
      owner := .generator, mode := .destSync, target := some .normal, limit := 400
      strokes := 0, runOn := none, flow := 0, noFlow := 0, divider := 0, pauseMs := 0
      endReason := none, levelAtEnd := none }
  let mayFill : State → Bool := fun s => decide (s.fill.state = .idle) && !s.drain.inFlight
  let mayDrain : State → Bool := fun s => decide (s.drain.state = .idle) && !s.fill.inFlight
  let heats : State → State → Prop := fun s t =>
    t.gen.state = .heating ∧
      t.share.requests.gen = ⟨(rating s.straps.cavity).gen, t.gen.prio⟩
  let boils : State → State → Prop := fun s t =>
    t.gen.state = .ready ∧
      t.share.requests.gen =
        ⟨t.gen.demand * (rating s.straps.cavity).gen / 1000, t.gen.prio⟩
  let followed : Int → State → State → Prop := fun v s t =>
    (s.gen.state = .heating → 980 ≤ v → boils s t) ∧
    (s.gen.state = .heating → v < 980 → t.gen.state = .heating) ∧
    (s.gen.state = .ready → v < 940 → heats s t) ∧
    (s.gen.state = .ready → 940 ≤ v → t.gen.state = .ready) ∧
    (s.gen.state = .cooling → v < 800 → mayDrain s = true →
      t.gen.state = .draining ∧ t.share.requests.gen.watts = 0 ∧
      t.gen.held = some .serviceDrain ∧
      t.drain =
        { state := if s.switches.tank.deb then .active else .paused
          owner := .generator, mode := .sourceSync, target := none, limit := 600
          strokes := 0, runOn := if s.gen.level = .dry then some 0 else none
          flow := 0, noFlow := 0, divider := 0, pauseMs := 0
          endReason := none, levelAtEnd := none }) ∧
    (s.gen.state = .cooling → 800 ≤ v ∨ mayDrain s = false →
      t.gen.state = .cooling ∧ t.drain = s.drain) ∧
    (s.gen.state = .filling ∨ s.gen.state = .draining ∨ s.gen.state = .waitWater ∨
        s.gen.state = .descale ∨ s.gen.state = .fault →
      t.gen.state = s.gen.state)
  ∀ (x : Samples) (s : State), live s.toBlock = true → s.life.settling = none →
    (∀ v, inSpan .cavity x.cavity = some v → v < 3000 ∨ s.climate.overtemp = true) →
    (∀ v, inSpan .generator x.generator = some v → v < 1600 ∨ s.gen.dryFire = true) →
    let a := s.sensors.generator
    ∃ t, exec (.samplingExpiry x) s = .next t ∧
      (∀ v, inSpan .generator x.generator = some v → a.validity = .valid →
        followed v s t ∧ (s.gen.state = .idle → t.gen.state = .idle)) ∧
      (inSpan .generator x.generator = none → a.validity = .valid → a.run < 3 →
        t.gen.state = s.gen.state ∧ t.fill = s.fill ∧ t.drain = s.drain) ∧
      (inSpan .generator x.generator = none → a.validity = .valid → 3 ≤ a.run →
        (s.gen.state = .filling ∨ s.gen.state = .heating ∨ s.gen.state = .ready →
          t.gen.state = .cooling ∧ t.share.requests.gen.watts = 0 ∧
          (s.fill.inFlight = true → s.fill.owner = .generator →
            t.gen.account =
              s.gen.account.addFill s.settings (s.fill.flow * s.settings.prescale) ∧
            t.gen.held = none ∧
            t.fill =
              { s.fill with
                state := .idle, owner := .none, endReason := some .stopped
                levelAtEnd := some s.gen.level })) ∧
        (s.gen.state ≠ .filling → s.gen.state ≠ .heating → s.gen.state ≠ .ready →
          t.gen.state = s.gen.state)) ∧
      (∀ v, inSpan .generator x.generator = some v → a.validity = .invalid →
        (a.run < 3 → t.gen.state = s.gen.state ∧ t.drain = s.drain) ∧
        (3 ≤ a.run → followed v s t ∧
          (s.gen.state = .idle → s.climate.steamWanted = false → t.gen.state = .idle) ∧
          (s.gen.state = .idle → s.climate.steamWanted = true →
            let locked : Bool :=
              s.descale.kept.rinseOwed ||
                decide (lockThreshold s.straps.cavity ≤ s.gen.account.scale)
            let short : Bool := decide (s.gen.level = .dry) || decide (s.gen.level = .low)
            (locked = true ∨ (short = true ∧ mayFill s = false) →
              t.gen.state = .idle ∧ t.share.requests.gen.watts = 0) ∧
            (locked = false → short = false → v < 980 → heats s t) ∧
            (locked = false → short = false → 980 ≤ v → boils s t) ∧
            (locked = false → short = true → mayFill s = true →
              t.gen.state = .filling ∧ t.share.requests.gen.watts = 0 ∧
              t.fill = serviceFill s))))

/-- At a CLIMATE OFF that clears steam-wanted: FILLING, HEATING and READY become COOLING at 0 W, a
fill in flight stopped, accounted and released; WAIT_WATER becomes IDLE; the other states stay. At
the end of its drain (LEVEL, COUNT, or SOURCE_LOST with TANK_MISSING raised) a DRAINING generator
releases the channel and clears the service-drain mark, with nothing accounted: it enters DESCALE
where the take is marked (and may claim DRAIN anew, log 11), else IDLE, with the service start
decision if steam is wanted; a standby request that waited for IDLE is then taken. -/
def Obligations.GeneratorLeavesService : Prop :=
  let serviceFill : State → ChannelRec := fun t =>
    { state := if t.switches.tank.deb then .active else .paused
      owner := .generator, mode := .destSync, target := some .normal, limit := 400
      strokes := 0, runOn := none, flow := 0, noFlow := 0, divider := 0, pauseMs := 0
      endReason := none, levelAtEnd := none }
  let decided : Bool → State → State → Prop := fun free s t =>
    let locked : Bool :=
      s.descale.kept.rinseOwed || decide (lockThreshold s.straps.cavity ≤ s.gen.account.scale)
    let known : Bool := decide (s.sensors.generator.validity = .valid)
    let short : Bool := decide (t.gen.level = .dry) || decide (t.gen.level = .low)
    (locked = true ∨ known = false →
      t.gen.state = .idle ∧ t.share.requests.gen.watts = 0) ∧
    (locked = false → known = true → short = false →
      t.gen.state = .heating ∧
      t.share.requests.gen = ⟨(rating s.straps.cavity).gen, t.gen.prio⟩) ∧
    (locked = false → known = true → short = true → free = true →
      t.gen.state = .filling ∧ t.share.requests.gen.watts = 0 ∧
      t.gen.held = some .serviceFill ∧ t.fill = serviceFill t) ∧
    (locked = false → known = true → short = true → free = false →
      t.gen.state = .idle ∧ t.share.requests.gen.watts = 0)
  let ended : EndReason → State → State → Prop := fun e s t =>
    (s.gen.descaleTake = false ∨ t.descale.transfer = none →
      t.drain =
        { s.drain with
          state := .idle, owner := .none, endReason := some e, levelAtEnd := some s.gen.level
          pauseMs := t.drain.pauseMs }) ∧
    t.gen.serviceDrain = false ∧ t.gen.account = s.gen.account ∧
    (e = .sourceLost → t.attn.has .tankMissing = true) ∧
    (s.gen.descaleTake = true → t.gen.state = .descale) ∧
    (s.gen.descaleTake = false → s.climate.steamWanted = true →
      decided (decide (s.fill.state = .idle)) s t) ∧
    (s.gen.descaleTake = false → s.climate.steamWanted = false →
      t.gen.state = .idle ∧ t.share.requests.gen.watts = 0 ∧
      (s.life.power = .standbyRequested → t.life.power = .standby))
  (∀ s : State, Answers s → s.climate.overtemp = false → s.descale.kept.phase = .idle →
    s.run.state = .idle → s.climate.state = .active ∨ s.climate.state = .suspended →
    s.climate.steamWanted = true →
    ∃ t, exec (.climateOff []) s = .next t ∧
      (s.gen.state = .filling ∨ s.gen.state = .heating ∨ s.gen.state = .ready →
        t.gen.state = .cooling ∧ t.share.requests.gen.watts = 0 ∧
        (s.fill.inFlight = true → s.fill.owner = .generator →
          t.gen.account =
            s.gen.account.addFill s.settings (s.fill.flow * s.settings.prescale) ∧
          t.gen.held = none ∧
          t.fill =
            { s.fill with
              state := .idle, owner := .none, endReason := some .stopped
              levelAtEnd := some s.gen.level })) ∧
      (s.gen.state = .waitWater → t.gen.state = .idle ∧ t.share.requests.gen.watts = 0) ∧
      (s.gen.state = .idle ∨ s.gen.state = .cooling ∨ s.gen.state = .draining ∨
          s.gen.state = .descale ∨ s.gen.state = .fault →
        t.gen.state = s.gen.state ∧ t.fill = s.fill)) ∧
  ∀ s : State, live s.toBlock = true → s.gen.state = .draining → s.drain.owner = .generator →
    (s.drain.state = .active → s.drain.mode = .sourceSync → s.drain.runOn = some 25 →
      ∃ t, exec (.pacingExpiry .drain) s = .next t ∧ ended .level s t) ∧
    (s.drain.state = .active → s.drain.runOn ≠ some 25 → s.drain.strokes = s.drain.limit →
      ∃ t, exec (.pacingExpiry .drain) s = .next t ∧ ended .count s t) ∧
    (s.drain.state = .paused →
      ∃ t, exec (.pauseTimeout .drain) s = .next t ∧ ended .sourceLost s t)

/-- At a part that handles requests: a climate not OFF, a run, a generator in FAULT (REFUSED_STATE),
or a procedure in progress (BUSY) refuses, in that order. Otherwise the record is cleared with phase
DRAIN_OLD (ADD_AGENT at once where the level is DRY), the source is RUN, a waiting standby request
is withdrawn; the generator enters DESCALE, or, while DRAINING, is marked to do so at its drain's
end, the phase then DRAIN_OLD (the model's reading, log 11); and a DESCALE write of the record is
queued. The account, the runs, the clock, the settings, the sensors and switches stay. -/
def Obligations.DescaleBegins : Prop :=
  (∀ s : State, Answers s → ∀ st : Status,
    (if s.climate.state ≠ .off then some .refusedState
     else if s.run.state ≠ .idle then some .refusedState
     else if s.gen.state = .fault then some .refusedState
     else if s.descale.kept.phase ≠ .idle then some .busy else none) = some st →
    exec (.descaleBegin []) s = .next (s.withBlock (replied 0x28#8 st [] (heard s.toBlock)))) ∧
  ∀ s : State, Answers s → s.climate.state = .off → s.run.state = .idle →
    s.gen.state ≠ .fault → s.descale.kept.phase = .idle →
    ∃ t, exec (.descaleBegin []) s = .next t ∧
      t.descale.kept =
        { DescaleRec.initial with
          phase := if s.gen.state ≠ .draining ∧ s.gen.level = .dry then .addAgent
                   else .drainOld } ∧
      t.climate.source = .run ∧ t.life.power = .awake ∧
      (s.gen.state ≠ .draining → t.gen.state = .descale) ∧
      (s.gen.state = .draining → t.gen.state = .draining ∧ t.gen.descaleTake = true) ∧
      (s.gen.state ≠ .draining → s.gen.level = .dry → t.attn.has .addDescaler = true) ∧
      .descale t.descale.kept ∈ t.store.inFlight.toList ++ t.store.queue ∧
      t.link.owed = some ⟨0xA8#8, [statusByte .ok s.link.dropped]⟩ ∧
      t.gen.account = s.gen.account ∧
      t = s.withBlock { heard s.toBlock with
        life := t.life, climate := t.climate, share := t.share, gen := t.gen, drain := t.drain
        descale := t.descale, attn := t.attn, store := t.store, link := t.link
        silence := t.silence }

/-- At a part that handles requests: with the phase IDLE it is refused with REFUSED_STATE. In
DRAIN_OLD, and in ADD_AGENT with no rinse owed, the procedure ends with a clear record and the
source LINK. In ADD_AGENT with a rinse owed aborted is set and the phase is REFILL_CLEAN, with its
prompt and tank cycle; with the generator in FAULT the phase alone changes. In AGENT_FILL and SOAK
aborted is set and the phase is AGENT_DRAIN, with the counted minutes kept, no scale removed, and in
SOAK the timer stopped and the heater at 0 W. From AGENT_DRAIN to RINSE_DRAIN aborted is set and the
rest of the block stays. The account (steam wanted under an overtemperature latch, which no run
reaches, aside), the run, the clock and the settings stay. -/
def Obligations.DescaleAborts : Prop :=
  (∀ s : State, Answers s → s.descale.kept.phase = .idle →
    exec (.descaleAbort []) s =
      .next (s.withBlock (replied 0x29#8 .refusedState [] (heard s.toBlock)))) ∧
  ∀ s : State, Answers s → s.descale.kept.phase ≠ .idle →
    let k := s.descale.kept
    ∃ t, exec (.descaleAbort []) s = .next t ∧
      t.link.owed = some ⟨0xA9#8, [statusByte .ok s.link.dropped]⟩ ∧
      (k.phase = .drainOld ∨ (k.phase = .addAgent ∧ k.rinseOwed = false) →
        t.descale.kept = .initial ∧ t.climate.source = .link) ∧
      (k.phase = .addAgent → k.rinseOwed = true →
        t.descale.kept = { k with aborted := true, phase := .refillClean } ∧
        (s.gen.state ≠ .fault → t.attn.has .emptyAndRefill = true ∧
          t.descale.tankCycle = if s.switches.tank.deb then .none else .removed) ∧
        (s.gen.state = .fault → t.attn = s.attn.remove .addDescaler ∧
          t.descale.tankCycle = s.descale.tankCycle)) ∧
      (k.phase = .addAgent → t.attn.has .addDescaler = false) ∧
      (k.phase = .agentFill ∨ k.phase = .soak →
        t.descale.kept = { k with aborted := true, phase := .agentDrain }) ∧
      (k.phase = .soak → t.descale.soakTimer = false ∧ t.descale.heater = 0) ∧
      (k.phase = .agentDrain ∨ k.phase = .refillClean ∨ k.phase = .rinseFill ∨
          k.phase = .rinseHold ∨ k.phase = .rinseDrain →
        t.descale = { s.descale with kept := { k with aborted := true } } ∧
        t.gen = (heard s.toBlock).gen ∧ t.fill = s.fill ∧ t.drain = s.drain) ∧
      (s.climate.overtemp = false ∨ s.climate.steamWanted = false →
        t.gen.account = s.gen.account) ∧
      t = s.withBlock { heard s.toBlock with
        life := t.life, climate := t.climate, share := t.share, gen := t.gen, fill := t.fill
        drain := t.drain, descale := t.descale, attn := t.attn, store := t.store, link := t.link
        silence := t.silence }

/-- In a part at work: a soak second counts with the timer running in SOAK, the generator in DESCALE
and the wall known at or above 55.0 °C; the 60th of a minute returns the seconds to 0 and adds a
minute; the minute that reaches the soak duration completes the soak: S falls by the lesser of S and
the agent's capacity, soak done is set, the timer stops, the heater is 0 W and the phase is
AGENT_DRAIN. Minutes already at the duration complete the soak at the next counted minute, not
before (the model's choice, log 42). Any other soak expiry changes nothing. At 60 s of RINSE_HOLD
the phase is RINSE_DRAIN with the rinses as they were. -/
def Obligations.SoakAndRinseAreTimed : Prop :=
  (∀ s : State, live s.toBlock = true → s.descale.soakTimer = true →
    s.descale.kept.phase = .soak → s.gen.state = .descale →
    wallIs s.toBlock (fun v => decide (550 ≤ v)) = true →
    let full := soakDuration s.straps.cavity
    (s.descale.seconds + 1 < 60 →
      exec .soakTimerExpiry s =
        .next (s.withBlock
          (setDescale { s.descale with seconds := s.descale.seconds + 1 } s.toBlock))) ∧
    (60 ≤ s.descale.seconds + 1 →
      ∃ t, exec .soakTimerExpiry s = .next t ∧ t.descale.seconds = 0 ∧
        t.descale.kept.minutes = s.descale.kept.minutes + 1 ∧
        (s.descale.kept.minutes + 1 < full →
          t.descale.kept.phase = .soak ∧ t.gen = s.gen ∧ t.descale.heater = s.descale.heater) ∧
        (full ≤ s.descale.kept.minutes + 1 →
          t.descale.kept.phase = .agentDrain ∧ t.descale.kept.soakDone = true ∧
          t.descale.soakTimer = false ∧ t.descale.heater = 0 ∧
          t.gen.account =
            { s.gen.account with
              scale := s.gen.account.scale -
                min s.gen.account.scale (agentCapacity s.settings.agentClass) }) ∧
        t = { s with
          share := t.share, gen := t.gen, drain := t.drain, descale := t.descale, attn := t.attn
          store := t.store })) ∧
  (∀ s : State, ¬ (s.descale.soakTimer = true ∧ s.descale.kept.phase = .soak ∧
      s.gen.state = .descale ∧ wallIs s.toBlock (fun v => decide (550 ≤ v)) = true) →
    exec .soakTimerExpiry s = .next s) ∧
  ∀ s : State, live s.toBlock = true → s.descale.holdTimer = true →
    s.descale.kept.phase = .rinseHold →
    ∃ t, exec .rinseHoldExpiry s = .next t ∧
      t.descale.kept = { s.descale.kept with phase := .rinseDrain } ∧
      t.descale.holdTimer = false ∧
      t = { s with drain := t.drain, descale := t.descale, store := t.store }

/-- With the procedure's transfer in flight and the generator in DESCALE. A drain that ends by LEVEL
or COUNT: DRAIN_OLD goes to ADD_AGENT with its prompt; AGENT_DRAIN to ADD_AGENT again under agent
redo without an abort, else to REFILL_CLEAN with its prompt and tank cycle; RINSE_DRAIN counts a
rinse and goes to RINSE_FILL with a new fill, or after the second ends the procedure: record clear,
generator released, source LINK, DESCALE_DONE if the soak was done, FAULT of the climate under a set
overtemperature latch. A fill that ends by LEVEL, or by COUNT above DRY, takes AGENT_FILL to SOAK
with the timer and the full heater and RINSE_FILL to RINSE_HOLD from 0. A lost source, no flow or a
count at DRY sets the water wait, raises its kind and keeps the phase. The account stays, a changed
record is queued, and a tank insertion ends the wait, of either mark (log 10). -/
def Obligations.DescaleFollowsItsTransfers : Prop :=
  let queued : State → Prop := fun t =>
    .descale t.descale.kept ∈ t.store.inFlight.toList ++ t.store.queue
  let freed : EndReason → ChannelRec → State → ChannelRec := fun e r t =>
    { r with state := .idle, owner := .none, endReason := some e, levelAtEnd := some t.gen.level }
  let waits : WaterWait → State → State → Prop := fun w s t =>
    t.descale = { s.descale with transfer := none, wait := some w } ∧
    t.attn.has (match w with | .tankEmpty => .tankEmpty | .tankMissing => .tankMissing) = true
  let drained : EndReason → State → State → Prop := fun e s t =>
    let k := s.descale.kept
    t.drain = freed e s.drain t ∧
    (s.climate.overtemp = false ∨ s.climate.steamWanted = false →
      t.gen.account = s.gen.account) ∧
    (k.phase = .drainOld ∨ k.phase = .agentDrain ∨ k.phase = .rinseDrain → queued t) ∧
    (k.phase = .drainOld → t.descale.kept = { k with phase := .addAgent } ∧
      t.descale.transfer = none ∧ t.attn.has .addDescaler = true) ∧
    (k.phase = .agentDrain → k.agentRedo = true → k.aborted = false →
      t.descale.kept = { k with phase := .addAgent, agentRedo := false } ∧
      t.attn.has .addDescaler = true) ∧
    (k.phase = .agentDrain → k.agentRedo = false ∨ k.aborted = true →
      t.descale.kept = { k with phase := .refillClean, agentRedo := false } ∧
      t.attn.has .emptyAndRefill = true ∧
      t.descale.tankCycle = if s.switches.tank.deb then .none else .removed) ∧
    (k.phase = .rinseDrain → k.rinses = 0 →
      let claims : Bool := decide (s.fill.state = .idle)
      t.descale.kept =
        { k with
          rinses := 1
          phase := if claims && decide (s.gen.level = .high) then .rinseHold else .rinseFill } ∧
      (claims = true → s.gen.level ≠ .high → t.descale.transfer = some .fill ∧
        t.fill =
          { state := if s.switches.tank.deb then .active else .paused
            owner := .descale, mode := .unsync, target := none, limit := 160
            strokes := 0, runOn := none, flow := 0, noFlow := 0, divider := 0, pauseMs := 0
            endReason := none, levelAtEnd := none })) ∧
    (k.phase = .rinseDrain → 1 ≤ k.rinses →
      t.descale = .initial .initial ∧ t.climate.source = .link ∧ t.gen.descaleTake = false ∧
      (s.climate.steamWanted = false → t.gen.state = .idle) ∧
      (k.soakDone = true → t.attn.has .descaleDone = true) ∧
      (s.climate.overtemp = true → t.climate.state = .fault) ∧
      (s.climate.overtemp = false → t.climate.state = s.climate.state))
  let filled : EndReason → State → State → Prop := fun e s t =>
    let k := s.descale.kept
    t.fill = freed e s.fill t ∧ t.gen.account = s.gen.account ∧
    (k.phase = .agentFill → t.descale.kept = { k with phase := .soak } ∧ queued t ∧
      t.descale.seconds = 0 ∧ t.descale.soakTimer = true ∧
      t.descale.heater = (rating s.straps.cavity).gen ∧
      t.share.requests.gen = ⟨(rating s.straps.cavity).gen, 5⟩) ∧
    (k.phase = .rinseFill → t.descale.kept = { k with phase := .rinseHold } ∧ queued t ∧
      t.descale.holdMs = 0 ∧ t.descale.holdTimer = true) ∧
    t.descale.transfer = none
  (∀ s : State, live s.toBlock = true → s.gen.state = .descale → s.drain.owner = .descale →
    s.descale.transfer = some .drain →
    (s.drain.state = .active → s.drain.mode = .sourceSync → s.drain.runOn = some 25 →
      ∃ t, exec (.pacingExpiry .drain) s = .next t ∧ drained .level s t) ∧
    (s.drain.state = .active → s.drain.runOn ≠ some 25 → s.drain.strokes = s.drain.limit →
      ∃ t, exec (.pacingExpiry .drain) s = .next t ∧ drained .count s t) ∧
    (s.drain.state = .paused →
      ∃ t, exec (.pauseTimeout .drain) s = .next t ∧ waits .tankMissing s t ∧
        t.drain.state = .idle)) ∧
  (∀ s : State, live s.toBlock = true → s.gen.state = .descale → s.fill.owner = .descale →
    s.descale.transfer = some .fill →
    (s.fill.state = .active → s.fill.noFlow = 20 →
      ∃ t, exec (.pacingExpiry .fill) s = .next t ∧ waits .tankEmpty s t ∧
        t.fill.state = .idle) ∧
    (s.fill.state = .active → s.fill.noFlow ≠ 20 → s.fill.mode = .unsync →
      s.fill.strokes = s.fill.limit →
      ∃ t, exec (.pacingExpiry .fill) s = .next t ∧
        (s.gen.level = .dry → waits .tankEmpty s t ∧ t.fill.state = .idle) ∧
        (s.gen.level ≠ .dry → filled .count s t)) ∧
    (s.fill.state = .paused →
      ∃ t, exec (.pauseTimeout .fill) s = .next t ∧ waits .tankMissing s t ∧
        t.fill.state = .idle) ∧
    ∀ (e : Electrode) (wet : Bool), s.life.settling = none → s.fill.inFlight = true →
      s.fill.mode = .unsync → s.gen.level ≠ .high →
      (switchOf s.switches (.electrode e)).deb ≠ wet →
      (switchOf s.switches (.electrode e)).raw = wet →
      ∃ t, exec (.electrodeChange e wet) s = .next t ∧
        (t.gen.level = .high → filled .level s t) ∧
        (t.gen.level ≠ .high → t.fill = s.fill ∧ t.descale = s.descale)) ∧
  ∀ s : State, live s.toBlock = true → s.life.settling = none →
    s.descale.wait.isSome = true → s.switches.tank.deb = false → s.switches.tank.raw = true →
    s.gen.state = .descale → s.descale.transfer = none →
    ∃ t, exec .tankInsertion s = .next t ∧ t.descale.wait = none ∧
      (s.descale.kept.phase = .agentFill ∨ s.descale.kept.phase = .rinseFill →
        s.fill.state = .idle → s.drain.inFlight = false → s.gen.level ≠ .high →
        t.descale.transfer = some .fill ∧ t.fill.state = .active ∧ t.fill.limit = 160 ∧
        t.descale.kept = s.descale.kept)

/-- At the fourth sampling expiry of the settling interval, with a procedure in progress, the
generator in DESCALE and no dry-fire, the phase is entered from its start with the first readings:
DRAIN_OLD examines the level; ADD_AGENT and REFILL_CLEAN raise their prompts, the latter with a new
tank cycle; AGENT_FILL becomes AGENT_DRAIN with agent redo; SOAK goes on with its minutes, seconds 0
and the full heater, or, the soak done, becomes AGENT_DRAIN; the drain and fill phases claim anew;
RINSE_HOLD begins from 0. An accepted GENERATOR CLEAR does the same, but a prompt phase keeps its
entry and its tank cycle and goes on; a REFILL_CLEAN to which an abort moved the phase in FAULT is
entered. -/
def Obligations.DescaleResumes : Prop :=
  let entered : Bool → Level → State → State → Prop := fun tank l s t =>
    let k := s.descale.kept
    let mayDrain : Bool :=
      decide (s.drain.state = .idle) && !s.fill.inFlight && s.descale.transfer.isNone &&
        decide (t.sensors.generator.validity = .valid) &&
        t.sensors.generator.last.any fun v => decide (v < 800)
    let mayFill : Bool :=
      decide (s.fill.state = .idle) && !s.drain.inFlight && s.descale.transfer.isNone
    let drains : Prop :=
      mayDrain = true → t.descale.transfer = some .drain ∧ t.drain.owner = .descale ∧
        t.drain.mode = .sourceSync ∧ t.drain.limit = 600 ∧
        t.drain.state = (if tank then .active else .paused)
    (k.phase = .drainOld → l = .dry →
      t.descale.kept = { k with phase := .addAgent } ∧ t.attn.has .addDescaler = true) ∧
    (k.phase = .drainOld → l ≠ .dry → t.descale.kept = k ∧ drains) ∧
    (k.phase = .agentFill →
      t.descale.kept = { k with phase := .agentDrain, agentRedo := true } ∧ drains) ∧
    (k.phase = .soak → k.soakDone = true →
      t.descale.kept = { k with phase := .agentDrain } ∧ drains) ∧
    (k.phase = .soak → k.soakDone = false →
      t.descale.kept = k ∧ t.descale.seconds = 0 ∧ t.descale.soakTimer = true ∧
      t.descale.heater = (rating s.straps.cavity).gen ∧
      t.share.requests.gen = ⟨(rating s.straps.cavity).gen, 5⟩) ∧
    (k.phase = .agentDrain ∨ k.phase = .rinseDrain → t.descale.kept = k ∧ drains) ∧
    (k.phase = .rinseFill → mayFill = false → t.descale.kept = k) ∧
    (k.phase = .rinseFill → mayFill = true → l = .high →
      t.descale.kept = { k with phase := .rinseHold } ∧ t.descale.transfer = none) ∧
    (k.phase = .rinseFill → mayFill = true → l ≠ .high →
      t.descale.kept = k ∧ t.descale.transfer = some .fill ∧ t.fill.owner = .descale ∧
      t.fill.mode = .unsync ∧ t.fill.limit = 160 ∧
      t.fill.state = if tank then .active else .paused) ∧
    (k.phase = .rinseHold →
      t.descale.kept = k ∧ t.descale.holdMs = 0 ∧ t.descale.holdTimer = true)
  (∀ (x : Samples) (s : State), live s.toBlock = true → s.life.settling = some 3 →
    s.descale.kept.phase ≠ .idle → s.gen.state = .descale →
    (∀ v, inSpan .generator x.generator = some v → v < 1600) →
    ∃ t, exec (.samplingExpiry x) s = .next t ∧ t.life.settling = none ∧
      t.gen.state = .descale ∧
      t.gen.level =
        (if s.switches.eLow.deb = false then .dry
         else if s.switches.eNormal.deb = false then .low
         else if s.switches.eHigh.deb = false then .normal else .high) ∧
      entered s.switches.tank.deb t.gen.level s t ∧
      (s.descale.kept.phase = .addAgent → t.descale.kept = s.descale.kept ∧
        t.attn.has .addDescaler = true) ∧
      (s.descale.kept.phase = .refillClean → t.descale.kept = s.descale.kept ∧
        t.attn.has .emptyAndRefill = true ∧
        t.descale.tankCycle = if s.switches.tank.deb then .none else .removed)) ∧
  ∀ s : State, Answers s → s.gen.state = .fault → wallCooled s.toBlock = true →
    s.descale.kept.phase ≠ .idle →
    ∃ t, exec (.generatorClear []) s = .next t ∧ t.gen.state = .descale ∧
      entered s.switches.tank.deb s.gen.level s t ∧
      (s.descale.kept.phase = .addAgent → t.descale = s.descale ∧ t.attn = s.attn) ∧
      (s.descale.kept.phase = .refillClean → s.attn.has .emptyAndRefill = true →
        t.descale = s.descale ∧ t.attn = s.attn) ∧
      (s.descale.kept.phase = .refillClean → s.attn.has .emptyAndRefill = false →
        t.descale.kept = s.descale.kept ∧ t.attn.has .emptyAndRefill = true ∧
        t.descale.tankCycle = if s.switches.tank.deb then .none else .removed)

/-- In a part at work: a pacing expiry of an ACTIVE channel makes a stroke, counting it on the no-
flow run of FILL and on a begun run-on, unless R69's conditions end the transfer, in their order;
then the transfer is over with that reason (a descaling that waited for the generator's drain may
claim DRAIN anew at its end). A selected edge counts while FILL is ACTIVE: the divider grows, and at
the prescale it returns to 0, the flow count grows (to 65 535 at most) and the no-flow run is 0. A
pause of 120 s ends the transfer with SOURCE_LOST and raises TANK_MISSING for its owner. Outside
those states, and for the other edge, nothing changes. -/
def Obligations.ChannelsMoveWater : Prop :=
  (∀ (c : Channel) (s : State), live s.toBlock = true → (s.channel c).state = .active →
    let r := s.channel c
    let ends : Option EndReason :=
      if c = .fill ∧ r.noFlow = 20 then some .noFlow
      else if r.mode = .sourceSync ∧ r.runOn = some 25 then some .level
      else if r.strokes = r.limit then some .count else none
    (ends = none →
      exec (.pacingExpiry c) s =
        .next (s.withBlock
          (setChannel c
            { r with
              strokes := r.strokes + 1
              noFlow := if c = .fill then r.noFlow + 1 else r.noFlow
              runOn := r.runOn.map fun n => n + 1 } s.toBlock))) ∧
    ∀ e, ends = some e →
      ∃ t, exec (.pacingExpiry c) s = .next t ∧
        (c = .fill ∨ r.owner ≠ .generator ∨ s.gen.descaleTake = false ∨
            t.descale.transfer = none →
          (t.channel c).inFlight = false ∧ (t.channel c).endReason = some e ∧
          (t.channel c).strokes = r.strokes) ∧
        t = { s with
          life := t.life, climate := t.climate, share := t.share, gen := t.gen, fill := t.fill
          drain := t.drain, descale := t.descale, attn := t.attn, store := t.store
          silence := t.silence }) ∧
  (∀ (c : Channel) (s : State), (s.channel c).state ≠ .active →
    exec (.pacingExpiry c) s = .next s) ∧
  (∀ (e : FlowEdge) (s : State), live s.toBlock = true → s.fill.state = .active →
    e = s.settings.edge →
    exec (.flowEdge e) s =
      .next (s.withBlock
        (setChannel .fill
          (if s.settings.prescale ≤ s.fill.divider + 1 then
            { s.fill with divider := 0, flow := min 65535 (s.fill.flow + 1), noFlow := 0 }
           else { s.fill with divider := s.fill.divider + 1 }) s.toBlock))) ∧
  (∀ (e : FlowEdge) (s : State), s.fill.state ≠ .active ∨ e ≠ s.settings.edge →
    exec (.flowEdge e) s = .next s) ∧
  (∀ (c : Channel) (s : State), live s.toBlock = true → (s.channel c).state = .paused →
    ∃ t, exec (.pauseTimeout c) s = .next t ∧
      (c = .fill ∨ (s.channel c).owner ≠ .generator ∨ s.gen.descaleTake = false ∨
          t.descale.transfer = none →
        (t.channel c).inFlight = false ∧ (t.channel c).endReason = some .sourceLost) ∧
      ((s.channel c).owner ≠ .none → t.attn.has .tankMissing = true) ∧
      t = { s with
        life := t.life, climate := t.climate, share := t.share, gen := t.gen, fill := t.fill
        drain := t.drain, descale := t.descale, attn := t.attn, store := t.store
        silence := t.silence }) ∧
  ∀ (c : Channel) (s : State), (s.channel c).state ≠ .paused →
    exec (.pauseTimeout c) s = .next s

/-- At a part that handles requests the first failed check refuses the request: below 19 bytes with
BAD_LENGTH, a slot above 15 with RANGE, a slot with a pending write with BUSY, a step count outside
1 to 12 with INVALID for step 0 and STEP_COUNT (0), a length other than 19 + 16 × the count with
BAD_LENGTH, a name that is empty or not printable before its first zero with INVALID for step 0 and
NAME (1); then the lowest-numbered step with a failure, and its first in the order MODE (2),
END_KIND (3), PROMPT (4), BIAS (5), PREHEAT (6), TIME_LIMIT (7), CORE_TARGET (8), HU_TARGET (9),
HU_BASE (10), with INVALID for that step and code. A sound recipe, its fields as the payload gives
them and the optional ones present only where the end kind uses them, is queued as the slot's write
with the slot's write count plus one (0 after 65 535), served if the store rests, and the reply
carries the slot and the new count. The resident record and everything else stay. That 0x8000 is a
present temperature and a setpoint, and that unused flag bits are disregarded, are the model's
readings (logs 38, 39, 41). -/
def Obligations.RecipeStoreIsExamined : Prop :=
  ∀ (p : Payload) (s : State), Answers s →
    let h := heard s.toBlock
    let byte : Nat → Nat := fun i => (p.getD i 0#8).toNat
    let word : Nat → Nat := fun i => byte i * 256 + byte (i + 1)
    let signed : Nat → Int := fun i => if word i < 32768 then word i else (word i : Int) - 65536
    let flag : Nat → Nat → Bool := fun i bit => (byte i).testBit bit
    let count := byte 17
    let name := ((p.drop 1).take 16).takeWhile fun x => x ≠ 0#8
    let modes : List StepMode :=
      [.cook .fanBake, .cook .topBottom, .cook .grill, .cook .fanGrill, .cook .bottomHeat,
       .cook .steam, .cook .combi, .rest]
    let failures : Nat → List Bool := fun o =>
      let mode := byte o % 16
      let endKind := byte o / 16
      [decide (7 < mode), decide (3 < endKind), decide (5 < byte (o + 14)),
       decide (2 < byte (o + 5)), decide (mode = 7 ∧ flag (o + 15) 0 = true),
       decide (endKind ≠ 3 ∧ word (o + 6) = 0), decide (endKind = 1 ∧ flag (o + 15) 2 = false),
       decide (endKind = 2 ∧ flag (o + 15) 3 = false),
       decide (endKind = 2 ∧ flag (o + 15) 4 = false)]
    let failure : Option (Nat × Nat) :=
      (List.range count).findSome? fun i =>
        ((failures (19 + 16 * i)).findIdx? fun x => x).map fun j => (i + 1, j + 2)
    let step : Nat → Step := fun o =>
      let endKind := byte o / 16
      { mode := modes.getD (byte o % 16) .rest
        setpoint := signed (o + 1), moisture := byte (o + 3), fan := byte (o + 4)
        bias := [Bias.dflt, .heatFirst, .steamFirst].getD (byte (o + 5)) .dflt
        endKind := [EndKind.time, .core, .heatUnits, .confirm].getD endKind .time
        limit := word (o + 6)
        coreTarget := if endKind = 1 then some (signed (o + 8)) else none
        huTarget := if endKind = 2 then some (word (o + 10)) else none
        huBase := if endKind = 2 then some (signed (o + 12)) else none
        prompt :=
          [PromptKind.none, .insertFood, .turnFood, .addLiquid, .removeFood, .checkFood].getD
            (byte (o + 14)) .none
        preheat := flag (o + 15) 0, doorCycle := flag (o + 15) 1 }
    let recipe : Recipe :=
      { name := name, steps := (List.range count).map fun i => step (19 + 16 * i)
        keepLamp := flag 18 0 }
    exec (.recipeStore p) s = .next (s.withBlock
      (if p.length < 19 then replied 0x30#8 .badLength [] h
       else
        match slotOf (byte 0) with
        | none => replied 0x30#8 .range [] h
        | some n =>
          if slotBusy s.toBlock n = true then replied 0x30#8 .busy [] h
          else if count < 1 ∨ 12 < count then replied 0x30#8 .invalid [0#8, 0#8] h
          else if p.length ≠ 19 + 16 * count then replied 0x30#8 .badLength [] h
          else if name = [] ∨ ∃ x ∈ name, x.toNat < 0x20 ∨ 0x7E < x.toNat then
            replied 0x30#8 .invalid [0#8, 1#8] h
          else
            match failure with
            | some (k, field) => replied 0x30#8 .invalid (u8 k ++ u8 field) h
            | none =>
              let v := s.store.slots.get n
              let c := if 65535 ≤ v.count then 0 else v.count + 1
              serveStore
                (replied 0x30#8 .ok (u8 n.val ++ u16 c)
                  (queueWrite (.slot n ⟨some recipe, c⟩) h))))

/-- At a part that handles requests: a slot above 15 is refused with RANGE and a slot with a pending
write with BUSY. READ answers an EMPTY slot with EMPTY_SLOT and its count, a HELD one with its
recipe and count, and changes nothing. ERASE refuses an EMPTY slot with EMPTY_SLOT, and queues for a
HELD one a write of an EMPTY record with the count kept. LIST answers the group and the entries of
its eight slots in order: the image of a pending STORE, else the resident record. -/
def Obligations.RecipeReadEraseAndList : Prop :=
  ∀ s : State, Answers s →
    let h := heard s.toBlock
    (∀ x : Byte, 16 ≤ x.toNat →
      exec (.recipeRead [x]) s = .next (s.withBlock (replied 0x31#8 .range [] h)) ∧
      exec (.recipeErase [x]) s = .next (s.withBlock (replied 0x32#8 .range [] h))) ∧
    (∀ n : Fin 16,
      let v := s.store.slots.get n
      let p : Payload := [BitVec.ofNat 8 n.val]
      (slotBusy s.toBlock n = true →
        exec (.recipeRead p) s = .next (s.withBlock (replied 0x31#8 .busy [] h)) ∧
        exec (.recipeErase p) s = .next (s.withBlock (replied 0x32#8 .busy [] h))) ∧
      (slotBusy s.toBlock n = false → v.recipe = none →
        exec (.recipeRead p) s = .next (s.withBlock (replied 0x31#8 .emptySlot (u16 v.count) h)) ∧
        exec (.recipeErase p) s = .next (s.withBlock (replied 0x32#8 .emptySlot [] h))) ∧
      (slotBusy s.toBlock n = false → ∀ r, v.recipe = some r →
        exec (.recipeRead p) s =
          .next (s.withBlock (replied 0x31#8 .ok (recipeBytes n.val r ++ u16 v.count) h)) ∧
        exec (.recipeErase p) s =
          .next (s.withBlock
            (serveStore
              (replied 0x32#8 .ok (u8 n.val ++ u16 v.count)
                (queueWrite (.slot n ⟨none, v.count⟩) h)))))) ∧
    (∀ x : Byte, 2 ≤ x.toNat →
      exec (.recipeList [x]) s = .next (s.withBlock (replied 0x33#8 .range [] h))) ∧
    ∀ g : Fin 2,
      exec (.recipeList [BitVec.ofNat 8 g.val]) s =
        .next (s.withBlock
          (replied 0x33#8 .ok
            (u8 g.val ++
              ((List.finRange 16).filter fun n => n.val / 8 = g.val).flatMap fun n =>
                let v :=
                  match slotWrite s.toBlock n with
                  | some v => if v.recipe.isSome then v else s.store.slots.get n
                  | none => s.store.slots.get n
                u8 (slotView s.toBlock n).code ++ nameField (v.recipe.elim [] Recipe.name) ++
                  u8 (v.recipe.elim 0 fun r => r.steps.length) ++ u16 v.count) h))

/-- At a part that handles requests the first failed check of R114 refuses the request, with nothing
else changed: a length other than 2 for NOW and 7 for AT and READY_BY, or other than either for a
start mode code above 2, with BAD_LENGTH; such a code with INVALID; then the slot and the second,
the descale, the run, the faults, the slot's state, a STEAM step under the lock, the clock, a time
more than a day ahead, and READY_BY with a CONFIRM step without limit. Otherwise the run counter
rises by one modulo 256 and gives the run id; the recipe and its write count are copied, the source
is RUN. The start time is none for NOW, the time given for AT, and for READY_BY that time less the
nominal duration: the sum of the steps' limits and of 480 s (FULL) or 360 s (COMPACT) for each
preheat. One still ahead makes the run PENDING; else it is RUNNING in step 1, not delayed, with DOOR
and SENSOR held by their conditions and the phase PREHEAT, PROMPT or ACTIVE. A checkpoint of it is
queued. The reply carries the id, the state, the nominal duration, the start time and the flags. The
clock, the settings, the reports and the descaling block stay. -/
def Obligations.RunStarts : Prop :=
  let byte : Payload → Nat → Nat := fun p i => (p.getD i 0#8).toNat
  let given : Payload → ClockTime := fun p =>
    ⟨byte p 2 * 256 + byte p 3, byte p 4 * 65536 + byte p 5 * 256 + byte p 6⟩
  let steamy : Recipe → Bool := fun r => r.steps.any fun x => decide (x.mode = .cook .steam)
  let endless : Recipe → Bool := fun r =>
    r.steps.any fun x => decide (x.endKind = .confirm ∧ x.limit = 0)
  (∀ (p : Payload) (s : State), Answers s → ∀ st : Status,
    (let mode := byte p 1
     if (mode = 0 ∧ p.length ≠ 2) ∨ ((mode = 1 ∨ mode = 2) ∧ p.length ≠ 7) ∨
        (2 < mode ∧ p.length ≠ 2 ∧ p.length ≠ 7) then some Status.badLength
     else if 2 < mode then some .invalid
     else
       match slotOf (byte p 0) with
       | none => some .range
       | some n =>
         if mode ≠ 0 ∧ 86399 < (given p).sec then some .range
         else if s.descale.kept.phase ≠ .idle then some .descaleActive
         else if s.run.state ≠ .idle then some .refusedState
         else if s.climate.state = .fault ∨ s.gen.state = .fault then some .refusedState
         else if slotBusy s.toBlock n = true then some .busy
         else
           match (s.store.slots.get n).recipe with
           | none => some .emptySlot
           | some r =>
             if steamy r = true ∧ steamLock s.toBlock = true then some .steamLocked
             else if mode ≠ 0 ∧ s.clock.valid = false then some .clockInvalid
             else if mode ≠ 0 ∧ 86400 < (given p).diff s.clock.time then some .range
             else if mode = 2 ∧ endless r = true then some .noDuration
             else none) = some st →
    exec (.runStart p) s = .next (s.withBlock (replied 0x40#8 st [] (heard s.toBlock)))) ∧
  ∀ (p : Payload) (s : State), Answers s →
    (byte p 1 = 0 ∧ p.length = 2) ∨ ((byte p 1 = 1 ∨ byte p 1 = 2) ∧ p.length = 7) →
    ∀ n, slotOf (byte p 0) = some n → ∀ r, (s.store.slots.get n).recipe = some r →
    (byte p 1 ≠ 0 →
      (given p).sec ≤ 86399 ∧ (given p).diff s.clock.time ≤ 86400 ∧ s.clock.valid = true) →
    s.descale.kept.phase = .idle → s.run.state = .idle → s.climate.state ≠ .fault →
    s.gen.state ≠ .fault → slotBusy s.toBlock n = false →
    (steamy r = false ∨ steamLock s.toBlock = false) →
    (byte p 1 ≠ 2 ∨ endless r = false) →
    let mode : StartMode := if byte p 1 = 0 then .now else if byte p 1 = 1 then .atTime else .readyBy
    let allowance : Nat := match s.straps.cavity with | .full => 480 | .compact => 360
    let nominal : Nat :=
      (r.steps.map Step.limit).sum + allowance * (r.steps.filter Step.preheat).length
    let early : Nat :=
      (((given p).day * 86400 + (given p).sec - nominal : Int).emod 5662310400).toNat
    let id := (s.runCounter + 1) % 256
    let start : Option ClockTime :=
      match mode with
      | .now => none
      | .atTime => some (given p)
      | .readyBy => some ⟨early / 86400, early % 86400⟩
    let later := start.any fun t => decide (0 < t.diff s.clock.time)
    let taken : Run :=
      { Run.cleared with
        recipe := some r, slot := some n, writeCount := (s.store.slots.get n).count
        runId := id, startMode := mode }
    ∃ t, exec (.runStart p) s = .next t ∧ t.runCounter = id ∧ t.climate.source = .run ∧
      (later = true → t.run = { taken with state := .pending, startTime := start } ∧
        t.climate = { (heard s.toBlock).climate with source := .run } ∧
        t = s.withBlock { heard s.toBlock with
          run := t.run, runCounter := t.runCounter, climate := t.climate, store := t.store
          attn := t.attn, link := t.link, silence := t.silence }) ∧
      (later = false →
        t.run.state = .running ∧ t.run.runId = id ∧ t.run.recipe = some r ∧
        t.run.slot = some n ∧ t.run.writeCount = taken.writeCount ∧ t.run.startMode = mode ∧
        t.run.startTime = none ∧ t.run.stepIndex = 1 ∧ t.run.delayed = false ∧
        ∀ x xs, r.steps = x :: xs →
          t.run.hold =
            { HoldSet.empty with
              door := doorOpen s.toBlock, sensor := decide (s.sensors.cavity.validity ≠ .valid) } ∧
          t.run.stepTimer = true ∧
          t.run.phase =
            some (if x.preheat then .preheat else if x.prompt = .none then .active else .prompt) ∧
          (∀ m, x.mode = .cook m → s.climate.overtemp = false →
            t.climate.mode = m ∧
            t.climate.ts = clampInt m.tsRange.1 m.tsRange.2 x.setpoint ∧
            t.climate.state ≠ .off) ∧
          (x.mode = .rest → s.climate.overtemp = false → t.climate.state = .off)) ∧
      (r.steps ≠ [] ∨ later = true →
        .checkpoint (checkpointOf t.toBlock) ∈ t.store.inFlight.toList ++ t.store.queue) ∧
      t.link.owed =
        some ⟨0xC0#8,
          statusByte .ok s.link.dropped ::
            (u8 id ++ u8 (if later then 1 else 2) ++ u32 nominal ++
              clockTime? start ++
              setByte [decide (mode = .atTime) && !later, decide (mode = .readyBy) && !later])⟩ ∧
      t = s.withBlock { heard s.toBlock with
        run := t.run, runCounter := t.runCounter, climate := t.climate, share := t.share
        gen := t.gen, fill := t.fill, attn := t.attn, store := t.store, link := t.link
        silence := t.silence, life := t.life }

/-- At a part that handles requests: a non-empty payload is refused with BAD_LENGTH; with no run
RUNNING both are refused with REFUSED_STATE. PAUSE adds PAUSE to the hold set and replies OK, and
changes nothing where PAUSE stands already. As the first of PAUSE, SILENT and POWER it adds RUN_HOLD
to the climate's reasons, and an ACTIVE climate is SUSPENDED with its element rows at 0 W and a
demand of 0; with POWER held, or in a REST step, climate, output stage and generator stay as the
frame left them (REST: R125 as log 9 reads it). RESUME with neither PAUSE nor POWER is refused with
REFUSED_STATE; else it removes both and no other hold, replies OK, clears POWER_RESTORED with POWER
and removes RUN_HOLD (SILENT has gone with the frame), and a SUSPENDED climate returns to ACTIVE
unless other reasons stand. -/
def Obligations.PauseAndResumeHoldTheRun : Prop :=
  ∀ s : State, Answers s →
    let h := heard s.toBlock
    (∀ p, p ≠ [] →
      exec (.runPause p) s = .next (s.withBlock (replied 0x41#8 .badLength [] h)) ∧
      exec (.runResume p) s = .next (s.withBlock (replied 0x42#8 .badLength [] h))) ∧
    (s.run.state ≠ .running →
      exec (.runPause []) s = .next (s.withBlock (replied 0x41#8 .refusedState [] h)) ∧
      exec (.runResume []) s = .next (s.withBlock (replied 0x42#8 .refusedState [] h))) ∧
    (s.run.state = .running →
      (∃ t, exec (.runPause []) s = .next t ∧
        t.run = { h.run with hold := { h.run.hold with pause := true } } ∧
        t.link = (replied 0x41#8 .ok [] h).link ∧
        t = s.withBlock { h with
          run := t.run, climate := t.climate, share := t.share, gen := t.gen, link := t.link } ∧
        (s.run.hold.pause = false → s.run.hold.power = false → inRest s.toBlock = false →
          ReasonJoined { h.climate.reasons with runHold := true } h t) ∧
        (s.run.hold.pause = true ∨ s.run.hold.power = true ∨ inRest s.toBlock = true →
          t.climate = h.climate ∧ t.share = h.share ∧ t.gen = h.gen)) ∧
      (s.run.hold.pause = true →
        exec (.runPause []) s = .next (s.withBlock (replied 0x41#8 .ok [] h))) ∧
      (s.run.hold.pause = false → s.run.hold.power = false →
        exec (.runResume []) s = .next (s.withBlock (replied 0x42#8 .refusedState [] h))) ∧
      (s.run.hold.pause = true ∨ s.run.hold.power = true →
        ∃ t, exec (.runResume []) s = .next t ∧
          t.run = { h.run with hold := { h.run.hold with pause := false, power := false } } ∧
          t.run.hold.door = s.run.hold.door ∧ t.run.hold.sensor = s.run.hold.sensor ∧
          t.run.hold.steam = s.run.hold.steam ∧ t.run.hold.probe = s.run.hold.probe ∧
          t.run.hold.silent = h.run.hold.silent ∧ h.run.hold.silent = false ∧
          t.attn = (if s.run.hold.power then s.attn.remove .powerRestored else s.attn) ∧
          t.climate.reasons = { h.climate.reasons with runHold := false } ∧
          (h.climate.state = .suspended →
            t.climate.state =
              if h.climate.reasons.door || h.climate.reasons.silent || h.climate.reasons.sensor
              then .suspended else .active) ∧
          t.link = (replied 0x42#8 .ok [] h).link ∧
          t = s.withBlock { h with
            run := t.run, climate := t.climate, share := t.share, gen := t.gen, attn := t.attn
            link := t.link }))

/-- At a part that handles requests: with no run RUNNING an ADVANCE, and with no run an ABORT, is
refused with REFUSED_STATE. An ADVANCE pushes the step's report with SKIPPED and starts the next
step, or, at the last, ends the run FINISHED with a clear context. An ABORT ends the run: the
context cleared, a report with ABORTED if it was RUNNING, RUN_ENDED raised with ABORTED and the run
id, no checkpoint retained, the source LINK, the climate OFF unless the overtemperature latch is
set. Both reply OK; clock, settings, sensors and switches stay. -/
def Obligations.AdvanceAndAbortEndTheStep : Prop :=
  ∀ s : State, Answers s →
    let h := heard s.toBlock
    (s.run.state ≠ .running →
      exec (.runAdvance []) s = .next (s.withBlock (replied 0x43#8 .refusedState [] h))) ∧
    (s.run.state = .idle →
      exec (.runAbort []) s = .next (s.withBlock (replied 0x44#8 .refusedState [] h))) ∧
    (s.run.state = .running →
      ∃ t, exec (.runAdvance []) s = .next t ∧
        t.reports = s.reports.push (stepReport .skipped h) ∧
        (s.run.stepIndex < s.run.recipe.elim 0 (·.steps.length) →
          t.run.state = .running ∧ t.run.stepIndex = s.run.stepIndex + 1 ∧
          t.run.runId = s.run.runId ∧ t.run.recipe = s.run.recipe ∧ t.run.step.active = 0) ∧
        (s.run.recipe.elim 0 (·.steps.length) ≤ s.run.stepIndex →
          t.run = .cleared ∧
          (t.attn.find .runEnded).map Entry.detail = some (.runEnd .finished s.run.runId)) ∧
        t.link.owed = some ⟨0xC3#8, [statusByte .ok s.link.dropped]⟩ ∧
        t = s.withBlock { h with
          run := t.run, climate := t.climate, share := t.share, gen := t.gen, fill := t.fill
          attn := t.attn, store := t.store, reports := t.reports, link := t.link
          silence := t.silence, life := t.life }) ∧
    (s.run.state ≠ .idle →
      ∃ t, exec (.runAbort []) s = .next t ∧ t.run = .cleared ∧
        t.reports =
          (if s.run.state = .running then s.reports.push (stepReport .aborted h)
           else s.reports) ∧
        (t.attn.find .runEnded).map Entry.detail = some (.runEnd .aborted s.run.runId) ∧
        (t.attn.has .stepPrompt || t.attn.has .stepCheck || t.attn.has .probeNeeded ||
          t.attn.has .powerRestored) = false ∧
        .checkpoint none ∈ t.store.inFlight.toList ++ t.store.queue ∧
        t.climate.source = .link ∧
        (s.climate.overtemp = false → t.climate.state = .off) ∧
        t.link.owed = some ⟨0xC4#8, [statusByte .ok s.link.dropped]⟩ ∧
        t = s.withBlock { h with
          run := t.run, climate := t.climate, share := t.share, gen := t.gen, fill := t.fill
          attn := t.attn, store := t.store, reports := t.reports, link := t.link
          silence := t.silence, life := t.life })

/-- In a part at work with a run RUNNING and its step timer on: a STEAM step takes the hold STEAM
while the generator waits for water, is in FAULT or locked; in ACTIVE of a CORE or HEAT_UNITS step
60 seconds without a core add PROBE and raise PROBE_NEEDED, a core removes both. With SENSOR held
for the 60th second the run ends with SENSOR; with any hold, one held second. In PREHEAT a second
counts, and at Ts − 50 (Ts − 30 in STEAM), with Tm at the cavity offset as it stands (the model's
choice, log 43), or at 1800 s with PREHEAT_LONG, the step enters PROMPT, or ACTIVE with none or a
delayed first step; in PROMPT only the door-open second counts; in ACTIVE one active second, the
heat units max(0, core − base) (of a REST step too: the model's choice, log 46), steam short and
power limited by their conditions, a checkpoint at each minute, and the step ends where its end kind
or its limit says, with that report. An expiry with no run RUNNING changes nothing. -/
def Obligations.StepSecondCounts : Prop :=
  (∀ s : State, live s.toBlock = true → s.run.state = .running → s.run.stepTimer = true →
    ∀ x : Step, currentStep s.toBlock = some x →
    let f := s.run.step
    let core := coreTemperature s.toBlock
    let dry : Bool :=
      decide (s.gen.state = .waitWater) || decide (s.gen.state = .fault) ||
        s.descale.kept.rinseOwed ||
        decide (lockThreshold s.straps.cavity ≤ s.gen.account.scale)
    let acts : Bool :=
      decide (s.run.phase = some .active) &&
        (decide (x.endKind = .core) || decide (x.endKind = .heatUnits))
    let missed : Nat :=
      if acts = true then (if core.isNone = true then min 60 (f.probeCount + 1) else 0)
      else f.probeCount
    let needed : Bool := acts && core.isNone && decide (60 ≤ missed)
    let hold : HoldSet :=
      { s.run.hold with
        steam := if x.mode = .cook .steam then dry else s.run.hold.steam
        probe := if acts = true then core.isNone && (s.run.hold.probe || needed)
          else s.run.hold.probe }
    let attn : Attn :=
      if needed = true then (raiseAttn .probeNeeded .none s.toBlock).attn
      else if (acts && core.isSome && s.run.hold.probe) = true then s.attn.remove .probeNeeded
      else s.attn
    let opened := if doorOpen s.toBlock then min 65535 (f.doorOpen + 1) else f.doorOpen
    (needed = true → attn.has .probeNeeded = true) ∧
    (s.run.hold.sensor = true → 59 ≤ s.run.sensorCount →
      ∃ t, exec .stepTimerExpiry s = .next t ∧ t.run = .cleared ∧
        t.reports = s.reports.push
          (stepReport .sensor { s.toBlock with
            run := { s.run with sensorCount := min 60 (s.run.sensorCount + 1) } }) ∧
        (t.attn.find .runEnded).map Entry.detail = some (.runEnd .sensor s.run.runId) ∧
        t = { s with
          run := t.run, climate := t.climate, share := t.share, gen := t.gen, fill := t.fill
          attn := t.attn, store := t.store, reports := t.reports, silence := t.silence
          life := t.life }) ∧
    (hold.any = true → (s.run.hold.sensor = false ∨ s.run.sensorCount < 59) →
      exec .stepTimerExpiry s =
        .next (s.withBlock
          (setAttn attn
            (setRun
              { s.run with
                hold := hold
                step :=
                  { f with
                    doorOpen := opened, held := min 65535 (f.held + 1), probeCount := missed }
                sensorCount :=
                  if s.run.hold.sensor then min 60 (s.run.sensorCount + 1)
                  else s.run.sensorCount } s.toBlock)))) ∧
    (hold.any = false → s.run.phase = some .prompt →
      exec .stepTimerExpiry s =
        .next (s.withBlock
          (setRun { s.run with hold := hold, step := { f with doorOpen := opened } }
            s.toBlock))) ∧
    (hold.any = false → s.run.phase = some .preheat →
      let n := min 1800 (f.preheat + 1)
      let g : StepFields := { f with doorOpen := opened, preheat := n }
      let mark : Int := if s.climate.mode = .steam then s.climate.ts - 30 else s.climate.ts - 50
      let warm := (measuredTm s.toBlock).any fun tm => decide (mark ≤ tm)
      let skips : Bool :=
        decide (x.prompt = .none) || (s.run.delayed && decide (s.run.stepIndex = 1))
      (warm = false → n < 1800 →
        exec .stepTimerExpiry s =
          .next (s.withBlock (setRun { s.run with hold := hold, step := g } s.toBlock))) ∧
      (warm = true ∨ 1800 ≤ n →
        ∃ t, exec .stepTimerExpiry s = .next t ∧
          t.run =
            { s.run with
              hold := hold
              phase := some (if skips then .active else .prompt)
              step :=
                { g with
                  preheatLong := f.preheatLong || !warm
                  doorCycle :=
                    if skips = true then f.doorCycle
                    else if doorOpen s.toBlock then .opened else .none } } ∧
          (skips = false → t.attn.has .stepPrompt = true) ∧
          (skips = true → (x.endKind = .confirm → t.attn.has .stepCheck = true) ∧
            .checkpoint (checkpointOf t.toBlock) ∈ t.store.inFlight.toList ++ t.store.queue) ∧
          t = { s with run := t.run, attn := t.attn, store := t.store })) ∧
    (hold.any = false → s.run.phase = some .active →
      let heat :=
        match core, x.huBase with
        | some tc, some base => if x.endKind = .heatUnits then (tc - base).toNat else 0
        | _, _ => 0
      let short := decide (x.mode = .cook .combi ∧ s.gen.state ≠ .ready)
      let cut := s.climate.shortfall || decide (s.share.grants.gen < s.share.requests.gen.watts)
      let g : StepFields :=
        { f with
          doorOpen := opened, active := min 65535 (f.active + 1), probeCount := missed
          heat := min 4294967295 (f.heat + heat)
          steamShort := if short then min 65535 (f.steamShort + 1) else f.steamShort
          powerLimited := if cut then min 65535 (f.powerLimited + 1) else f.powerLimited }
      let limited := if g.active = x.limit then some StepEnd.limit else none
      let ends : Option StepEnd :=
        match x.endKind with
        | .time => if g.active = x.limit then some .time else none
        | .core =>
          if core.any (fun tc => x.coreTarget.any fun v => decide (v ≤ tc)) then some .coreReached
          else limited
        | .heatUnits =>
          if x.huTarget.any (fun v => decide (v * 600 ≤ g.heat)) then some .huReached else limited
        | .confirm => if x.limit = 0 then none else limited
      ∃ t, exec .stepTimerExpiry s = .next t ∧
        (ends = none → t.run = { s.run with hold := hold, step := g } ∧ t.reports = s.reports ∧
          t.climate = s.climate ∧ t.gen = s.gen ∧ t.attn = attn ∧
          (g.active % 60 = 0 →
            .checkpoint (checkpointOf t.toBlock) ∈ t.store.inFlight.toList ++ t.store.queue)) ∧
        (∀ e, ends = some e →
          t.reports = s.reports.push
            (stepReport e { s.toBlock with run := { s.run with step := g } }) ∧
          (s.run.stepIndex < s.run.recipe.elim 0 (·.steps.length) →
            t.run.state = .running ∧ t.run.stepIndex = s.run.stepIndex + 1) ∧
          (s.run.recipe.elim 0 (·.steps.length) ≤ s.run.stepIndex → t.run = .cleared)) ∧
        t = { s with
          run := t.run, climate := t.climate, share := t.share, gen := t.gen, fill := t.fill
          attn := t.attn, store := t.store, reports := t.reports, silence := t.silence
          life := t.life })) ∧
  ∀ s : State, s.run.state ≠ .running ∨ s.run.stepTimer = false →
    exec .stepTimerExpiry s = .next s

/-- At a part that handles requests, in every state of the run: a non-empty payload is refused with
BAD_LENGTH; TAKE of an empty queue is answered NONE; else TAKE removes the oldest report and answers
OK with the overflow flag, which it leaves as it is, and that report. CLEAR empties the queue,
clears the flag and answers OK. A report pushed onto an empty queue just before a TAKE is the one it
returns; one pushed after it is left in the queue, while it has room. -/
def Obligations.ReportTakeAndClearServeTheQueue : Prop :=
  ∀ s : State, Answers s →
    let h := heard s.toBlock
    (∀ p, p ≠ [] →
      exec (.reportTake p) s = .next (s.withBlock (replied 0x58#8 .badLength [] h)) ∧
      exec (.reportClear p) s = .next (s.withBlock (replied 0x59#8 .badLength [] h))) ∧
    (s.reports.list = [] →
      exec (.reportTake []) s = .next (s.withBlock (replied 0x58#8 .none [] h))) ∧
    (∀ r rs, s.reports.list = r :: rs →
      exec (.reportTake []) s =
        .next (s.withBlock
          (replied 0x58#8 .ok (flagByte s.reports.overflow ++ r.bytes)
            (setReports { list := rs, overflow := s.reports.overflow } h)))) ∧
    exec (.reportClear []) s =
      .next (s.withBlock (replied 0x59#8 .ok [] (setReports ⟨[], false⟩ h))) ∧
    (∀ r, s.reports.list = [] →
      ∃ t, exec (.reportTake []) (s.withBlock (pushReport r s.toBlock)) = .next t ∧
        t.reports.list = [] ∧
        t.link.owed =
          some ⟨0xD8#8,
            statusByte .ok s.link.dropped :: (flagByte s.reports.overflow ++ r.bytes)⟩) ∧
    ∀ r t, exec (.reportTake []) s = .next t → t.reports.list.length < 8 →
      (pushReport r t.toBlock).reports.list = t.reports.list ++ [r]

/-- At a part that handles requests: a payload that is not four bytes is refused with BAD_LENGTH.
Otherwise the mask becomes the kinds whose flags are set (code n at place n of 24 from the high
end), flags at unused places disregarded; the threshold the fourth byte, at most 7; both are echoed
with OK and nothing else changes. Prompt kinds keep their flags, which have no effect: a prompt
entry stays visible. From this event ATTN follows the new mask and threshold. -/
def Obligations.AttentionMaskIsTaken : Prop :=
  ∀ (p : Payload) (s : State), Answers s →
    let h := heard s.toBlock
    (p.length ≠ 4 →
      exec (.attentionMask p) s = .next (s.withBlock (replied 0x53#8 .badLength [] h))) ∧
    (p.length = 4 →
      ∃ t, exec (.attentionMask p) s = .next t ∧
        t = s.withBlock
          (replied 0x53#8 .ok (maskBytes t.attn.mask ++ u8 t.attn.threshold)
            (setAttn { s.attn with mask := t.attn.mask, threshold := t.attn.threshold } h)) ∧
        (∀ k, k ∈ t.attn.mask ↔ (natOf (p.take 3)).testBit (23 - k.code) = true) ∧
        t.attn.threshold = min 7 (byteAt p 3) ∧
        (∀ e ∈ t.attn.entries, e.kind.cls = .prompt → t.attn.visible e = true) ∧
        (attnDriven t.toBlock = true ↔
          t.reports.list ≠ [] ∨
          ∃ e ∈ s.attn.entries, e.state = .pending ∧ e.kind.priority ≤ t.attn.threshold ∧
            (e.kind ∉ t.attn.mask ∨ e.kind.cls = .prompt)))

/-- At a part that handles requests: PEEK answers the count and the records of the visible entries,
lowest priority number first, raise order among equals, and changes nothing. TAKE finds the first
PENDING one of that list; with none, or with a chain whose top has no higher priority number, it is
answered NONE; else the entry becomes IN_SERVICE at the chain's end and its record is the answer. -/
def Obligations.PeekAndTakeByPriority : Prop :=
  ∀ s : State, Answers s →
    let h := heard s.toBlock
    let a := s.attn
    exec (.attentionPeek []) s =
      .next (s.withBlock
        (replied 0x50#8 .ok (u8 a.peek.length ++ a.peek.flatMap a.record) h)) ∧
    a.peek.Pairwise (fun x y => x.kind.priority ≤ y.kind.priority) ∧
    (∀ n : Nat, a.peek.filter (fun e => decide (e.kind.priority = n)) =
      a.entries.filter fun e =>
        decide (e.kind.priority = n) &&
          (decide (e.kind ∉ a.mask) || decide (e.kind.cls = .prompt) ||
            decide (e.state = .inService))) ∧
    (a.peek.find? (fun e => decide (e.state = .pending)) = none →
      exec (.attentionTake []) s = .next (s.withBlock (replied 0x51#8 .none [] h))) ∧
    ∀ e, a.peek.find? (fun e => decide (e.state = .pending)) = some e →
      (a.chain.getLast?.any (fun k => decide (k.priority ≤ e.kind.priority)) = true →
        exec (.attentionTake []) s = .next (s.withBlock (replied 0x51#8 .none [] h))) ∧
      (a.chain.getLast?.any (fun k => decide (k.priority ≤ e.kind.priority)) = false →
        let a' : Attn :=
          { a with
            entries := a.entries.map fun x =>
              if x.kind = e.kind then { x with state := .inService } else x
            chain := a.chain ++ [e.kind] }
        exec (.attentionTake []) s =
          .next (s.withBlock
            (replied 0x51#8 .ok (a'.record { e with state := .inService }) (setAttn a' h))))

/-- At a part that handles requests: code 0 addresses the chain top (NONE with an empty chain), a
code from 1 to 17 its kind (REFUSED_STATE unless IN_SERVICE, or PENDING and latched), any other is
INVALID. A latched entry is removed; a condition entry is ACKNOWLEDGED while its condition holds,
else removed; a prompt that its owner does not accept stays, with NOT_READY; an accepted one is
removed, off the chain too, and its owner acts (a CONFIRM step that the close of STEP_CHECK begins
raises that entry anew): the agent fill begins with rinse owed, the rinse fill, the step's ACTIVE
phase, or the step's end CONFIRMED. OK carries the code and the outcome. -/
def Obligations.CloseFollowsTheClass : Prop :=
  ∀ s : State, Answers s →
    let h := heard s.toBlock
    (s.attn.chain = [] →
      exec (.attentionClose [0#8]) s = .next (s.withBlock (replied 0x52#8 .none [] h))) ∧
    (∀ x : Byte, 17 < x.toNat →
      exec (.attentionClose [x]) s = .next (s.withBlock (replied 0x52#8 .invalid [] h))) ∧
    ∀ k : AttnKind,
      let named : Byte := BitVec.ofNat 8 k.code
      let standing := (s.attn.find k).any fun e =>
        decide (e.state = .inService ∨ e.state = .pending ∧ k.cls = .latched)
      (standing = false →
        exec (.attentionClose [named]) s =
          .next (s.withBlock (replied 0x52#8 .refusedState [] h))) ∧
      ∀ x : Byte, (x = 0#8 ∧ s.attn.chain.getLast? = some k) ∨ (x = named ∧ standing = true) →
        (k.cls = .latched → k ≠ .tankEmpty →
          exec (.attentionClose [x]) s =
            .next (s.withBlock
              (replied 0x52#8 .ok [named, 0#8] (setAttn (s.attn.remove k) h)))) ∧
        (k = .tankEmpty →
          ∃ t, exec (.attentionClose [x]) s = .next t ∧ t.attn.has .tankEmpty = false ∧
            t.link.owed = some ⟨0xD2#8, [statusByte .ok s.link.dropped, named, 0#8]⟩ ∧
            t = s.withBlock { h with
              life := t.life, climate := t.climate, share := t.share, gen := t.gen
              fill := t.fill, drain := t.drain, descale := t.descale, attn := t.attn
              store := t.store, link := t.link, silence := t.silence }) ∧
        (k.cls = .condition →
          exec (.attentionClose [x]) s =
            .next (s.withBlock
              (if conditionHolds h k = true then
                replied 0x52#8 .ok [named, 1#8]
                  (setAttn
                    { s.attn with
                      entries := s.attn.entries.map fun e =>
                        if e.kind = k then { e with state := .acknowledged } else e
                      chain := s.attn.chain.filter fun j => decide (j ≠ k) } h)
               else replied 0x52#8 .ok [named, 0#8] (setAttn (s.attn.remove k) h)))) ∧
        (k.cls = .prompt → promptReady k h = false →
          exec (.attentionClose [x]) s =
            .next (s.withBlock (replied 0x52#8 .notReady [named] h))) ∧
        (k.cls = .prompt → promptReady k h = true →
          ∃ t, exec (.attentionClose [x]) s = .next t ∧
            t.link.owed = some ⟨0xD2#8, [statusByte .ok s.link.dropped, named, 0#8]⟩ ∧
            k ∉ t.attn.chain ∧ (k ≠ .stepCheck → t.attn.has k = false) ∧
            (k = .addDescaler → t.descale.kept.rinseOwed = true ∧
              (t.descale.kept.phase = .agentFill ∨ t.descale.kept.phase = .soak)) ∧
            (k = .emptyAndRefill →
              t.descale.kept.phase = .rinseFill ∨ t.descale.kept.phase = .rinseHold) ∧
            (k = .stepPrompt → (currentStep s.toBlock).isSome = true →
              s.run.phase = some .prompt → t.run.phase = some .active) ∧
            (k = .stepCheck → s.run.phase = some .active →
              t.reports = s.reports.push (stepReport .confirmed h)) ∧
            t = s.withBlock { h with
              life := t.life, climate := t.climate, share := t.share, gen := t.gen
              fill := t.fill, drain := t.drain, descale := t.descale, run := t.run
              reports := t.reports, attn := t.attn, store := t.store, link := t.link
              silence := t.silence })

/-- At a part that handles requests: READ answers the day, the second and the valid flag and changes
nothing. SET with a second of day above 86 399 is refused with RANGE; else the clock takes the time
and is valid, CLOCK_INVALID is cleared, the day and second are echoed (without the flag: the model's
choice, log 47), and a PENDING run whose start time is not after it begins step 1 delayed. An
advance adds one second, the day rolling at 86 400 s and 65 536 days, in every state of the part; at
a part at work past start-up a PENDING run then due begins, waking the part; else nothing else
changes (in the settling interval the clock alone moves: the model's choice, log 12). -/
def Obligations.ClockCommandsKeepTime : Prop :=
  (∀ (p : Payload) (s : State), Answers s →
    let h := heard s.toBlock
    let now : ClockTime := ⟨wordAt p 0, natOf (bytesAt p 2 3)⟩
    let due := decide (s.run.state = .pending) && s.run.startTime.any fun t => !t.after now
    exec (.clockRead []) s =
      .next (s.withBlock
        (replied 0x61#8 .ok
          (u16 s.clock.time.day ++ u24 s.clock.time.sec ++ flagByte s.clock.valid) h)) ∧
    (p.length = 5 → 86399 < now.sec →
      exec (.clockSet p) s = .next (s.withBlock (replied 0x60#8 .range [] h))) ∧
    (p.length = 5 → now.sec ≤ 86399 → due = false →
      exec (.clockSet p) s =
        .next (s.withBlock
          (replied 0x60#8 .ok (u16 now.day ++ u24 now.sec)
            (setAttn (s.attn.remove .clockInvalid) (setClock ⟨now, true⟩ h))))) ∧
    (p.length = 5 → now.sec ≤ 86399 → due = true →
      ∃ t, exec (.clockSet p) s = .next t ∧ t.clock = ⟨now, true⟩ ∧
        t.attn.has .clockInvalid = false ∧ t.run.state = .running ∧ t.run.stepIndex = 1 ∧
        t.run.delayed = true ∧
        t = s.withBlock { h with
          clock := t.clock, run := t.run, climate := t.climate, share := t.share, gen := t.gen
          fill := t.fill, attn := t.attn, store := t.store, link := t.link, silence := t.silence
          life := t.life })) ∧
  ∀ s : State,
    let c := s.clock.time
    let next : ClockTime :=
      if c.sec + 1 < 86400 then ⟨c.day, c.sec + 1⟩
      else ⟨if c.day + 1 < 65536 then c.day + 1 else 0, 0⟩
    let due := receiving s.toBlock && decide (s.run.state = .pending) &&
      s.run.startTime.any fun t => !t.after next
    (due = false →
      exec .clockAdvance s = .next (s.withBlock (setClock ⟨next, s.clock.valid⟩ s.toBlock))) ∧
    (due = true →
      ∃ t, exec .clockAdvance s = .next t ∧ t.clock = ⟨next, s.clock.valid⟩ ∧
        t.run.state = .running ∧ t.run.stepIndex = 1 ∧ t.run.delayed = true ∧
        (s.life.power = .standby → t.life.power = .awake ∧ t.life.wake = some .startDue) ∧
        t = { s with
          clock := t.clock, run := t.run, climate := t.climate, share := t.share, gen := t.gen
          fill := t.fill, attn := t.attn, store := t.store, silence := t.silence, life := t.life })

/-- In a part at work each of the CAVITY, GENERATOR and MOISTURE channels takes its sample, and the
three probes while the plug reads plugged. A VALID channel keeps the value and shifts its window of
four; its 4th out-of-span sample in a row makes it INVALID. An INVALID one becomes VALID at the 4th
in-span sample in a row. After start-up a valid cavity sample of 300.0 °C or more sets the
overtemperature latch, interlocks the elements, ends a run and puts a climate with no descale in
FAULT; a valid wall sample of 160.0 °C or more sets the dry-fire latch, the generator in FAULT, no
transfer in flight. The fourth expiry of the settling interval, in which a part is awake, ends
start-up and starts the window timer. -/
def Obligations.SamplingMovesTheChannels : Prop :=
  (∀ (x : Samples) (s : State), live s.toBlock = true →
    ∃ t, exec (.samplingExpiry x) s = .next t ∧
      t.sensors.cavity = (s.sensors.cavity.take (inSpan .cavity x.cavity)).1 ∧
      t.sensors.generator = (s.sensors.generator.take (inSpan .generator x.generator)).1 ∧
      t.sensors.moisture = (s.sensors.moisture.take (inSpan .moisture x.moisture)).1 ∧
      (t.sensors.probe1, t.sensors.probe2, t.sensors.probe3) =
        (if s.switches.plug.deb then
          ((s.sensors.probe1.take (inSpan .probe1 x.probe1)).1,
           (s.sensors.probe2.take (inSpan .probe2 x.probe2)).1,
           (s.sensors.probe3.take (inSpan .probe3 x.probe3)).1)
         else (s.sensors.probe1, s.sensors.probe2, s.sensors.probe3)) ∧
      t = { s with
        sensors := t.sensors, life := t.life, climate := t.climate, share := t.share
        gen := t.gen, fill := t.fill, drain := t.drain, descale := t.descale, run := t.run
        reports := t.reports, attn := t.attn, switches := t.switches, store := t.store
        silence := t.silence } ∧
      t.switches = { s.switches with disagree := t.switches.disagree } ∧
      (∀ n, s.life.settling = some n → n < 3 → t.life.settling = some (n + 1)) ∧
      (s.life.settling = some 3 → s.life.power = .awake →
        t.life.settling = none ∧ t.share.windowTimer = true) ∧
      (∀ v, inSpan .cavity x.cavity = some v → s.life.settling = none →
        s.sensors.cavity.validity = .valid → 3000 ≤ v → s.climate.overtemp = false →
        t.climate.overtemp = true ∧
        (∀ l, l ≠ .gen → (t.share.loads.get l).locks.overtemp = true) ∧
        t.attn.has .cavityOvertemp = true ∧ (s.run.state ≠ .idle → t.run = .cleared) ∧
        (s.descale.kept.phase = .idle → t.climate.state = .fault)) ∧
      (∀ v, inSpan .generator x.generator = some v → s.life.settling = none →
        s.sensors.generator.validity = .valid → 1600 ≤ v → s.gen.dryFire = false →
        t.gen.dryFire = true ∧ t.gen.state = .fault ∧
        t.share.loads.gen.locks.dryFire = true ∧ t.attn.has .generatorFault = true ∧
        t.fill.inFlight = false ∧ t.drain.inFlight = false)) ∧
  (∀ (a : Analog) (v : Int), a.validity = .valid →
    ((a.take (some v)).1 =
      { a with
        run := 0, last := some v
        window := if a.window.length < 4 then a.window ++ [v] else a.window.tail ++ [v] }) ∧
    (a.run < 3 → (a.take none).1 = { a with run := a.run + 1 }) ∧
    (3 ≤ a.run → (a.take none).1 = { a with validity := .invalid, run := 0, window := [] })) ∧
  ∀ (a : Analog) (v : Int), a.validity = .invalid →
    (a.take none).1 = { a with run := 0, window := [] } ∧
    (a.run < 3 → (a.take (some v)).1.validity = .invalid ∧
      (a.take (some v)).1.run = a.run + 1) ∧
    (3 ≤ a.run → (a.take (some v)).1.validity = .valid ∧ (a.take (some v)).1.run = 0 ∧
      (a.take (some v)).1.last = some v)

/-- In STARTING a channel gathers its samples; the fourth makes it VALID if all four were in span,
else INVALID with the count and window of those after the last out of span. At a sampling expiry of
a part at work past start-up: a cavity channel that becomes invalid adds the reason SENSOR (an
ACTIVE climate is SUSPENDED), the hold SENSOR of a RUNNING run with its count 0, and the source
CAVITY of SENSOR_FAULT; one that becomes valid removes all three. The wall, the moisture and the
probe channels raise and clear their own sources; a soak whose wall becomes unknown is given 0 W. -/
def Obligations.ValidityReachesItsConsumers : Prop :=
  let sources : State → SourceSet := fun t =>
    match t.attn.find .sensorFault with
    | some ⟨_, _, _, .sources y⟩ => y
    | _ => ⟨false, false, false, false, false, false⟩
  (∀ a : Analog, a.validity = .starting →
    (∀ v : Int,
      let w := if a.window.length < 4 then a.window ++ [v] else a.window.tail ++ [v]
      (a.taken < 3 →
        (a.take (some v)).1 = { a with run := a.run + 1, window := w, taken := a.taken + 1 }) ∧
      (3 ≤ a.taken → a.run < 3 →
        (a.take (some v)).1 =
          { a with
            validity := .invalid, run := a.run + 1, window := w, taken := a.taken + 1 }) ∧
      (3 ≤ a.taken → 3 ≤ a.run →
        (a.take (some v)).1 =
          { a with
            validity := .valid, run := 0, last := some v, window := w
            taken := a.taken + 1 })) ∧
    (a.take none).1 =
      { a with
        validity := if a.taken < 3 then .starting else .invalid
        run := 0, window := [], taken := a.taken + 1 }) ∧
  ∀ (x : Samples) (s : State), live s.toBlock = true → s.life.settling = none →
    (∀ v, inSpan .cavity x.cavity = some v → v < 3000 ∨ s.climate.overtemp = true) →
    ∃ t, exec (.samplingExpiry x) s = .next t ∧
      (s.sensors.cavity.validity = .valid → t.sensors.cavity.validity = .invalid →
        t.climate.reasons.sensor = true ∧ (sources t).cavity = true ∧
        (s.climate.state = .active → t.climate.state = .suspended) ∧
        (s.run.state = .running → t.run.hold.sensor = true ∧ t.run.sensorCount = 0)) ∧
      (s.sensors.cavity.validity ≠ .valid → t.sensors.cavity.validity = .valid →
        t.climate.reasons.sensor = false ∧ (sources t).cavity = false ∧
        (s.climate.state = .suspended →
          t.climate.state =
            if s.climate.reasons.door || s.climate.reasons.runHold || s.climate.reasons.silent
            then .suspended else .active) ∧
        (s.run.state = .running → t.run.hold.sensor = false ∧ t.run.sensorCount = 0)) ∧
      (s.sensors.cavity.validity = t.sensors.cavity.validity →
        t.climate.reasons = s.climate.reasons ∧ t.climate.state = s.climate.state ∧
        t.run = s.run) ∧
      (s.sensors.cavity.validity = .starting → t.sensors.cavity.validity = .invalid →
        (sources t).cavity = true ∧ t.climate = s.climate ∧ t.run = s.run) ∧
      (s.sensors.generator.validity ≠ .invalid → t.sensors.generator.validity = .invalid →
        (sources t).generator = true) ∧
      (s.sensors.generator.validity ≠ .valid → t.sensors.generator.validity = .valid →
        (sources t).generator = false) ∧
      (s.sensors.generator.validity = .valid → t.sensors.generator.validity = .invalid →
        s.gen.state = .descale → s.descale.kept.phase = .soak →
        t.descale.heater = 0 ∧ t.share.requests.gen = ⟨0, 5⟩) ∧
      (s.sensors.moisture.validity ≠ .invalid → t.sensors.moisture.validity = .invalid →
        (sources t).moisture = true) ∧
      (s.sensors.moisture.validity ≠ .valid → t.sensors.moisture.validity = .valid →
        (sources t).moisture = false) ∧
      ((s.sensors.probe1.validity ≠ .invalid ∧ t.sensors.probe1.validity = .invalid) ∨
        (s.sensors.probe2.validity ≠ .invalid ∧ t.sensors.probe2.validity = .invalid) ∨
        (s.sensors.probe3.validity ≠ .invalid ∧ t.sensors.probe3.validity = .invalid) →
        (sources t).probe = true) ∧
      ((s.sensors.probe1.validity = .invalid ∨ s.sensors.probe2.validity = .invalid ∨
          s.sensors.probe3.validity = .invalid) →
        t.sensors.probe1.validity = .valid → t.sensors.probe2.validity = .valid →
        t.sensors.probe3.validity = .valid → (sources t).probe = false)

/-- A raw level that differs is kept and restarts the 50 ms of its input, and nothing else changes;
that it does so in every state of the part, off, held in reset or flushing too, is the model's
reading (log 5: R175 and R181 let the blocks act on no event then). In a part at work past start-up
a debounced change to the level that the contact's raw level holds is kept and wakes a part in
standby; the disagreement timer runs while the contacts differ, and contacts that agree again clear
SENSOR_FAULT's source DOOR. Where the door opens, every load gets the DOOR interlock, the lamp mark
goes, the climate gets the reason DOOR and an ACTIVE one is SUSPENDED; a RUNNING run counts the
opening with its times, is held, and moves a door cycle of NONE in PROMPT to OPENED; DOOR_OPEN is
raised unless the climate is OFF and the run IDLE. Where it closes, interlock, reason and hold go, a
SUSPENDED climate with no other reason is ACTIVE, OPENED becomes CYCLED in PROMPT, and DOOR_OPEN
goes. Where the door state stays, so do climate and run. At 1 s of disagreement SENSOR_FAULT is
raised for DOOR, and the timer stops (the stop is the model's choice, log 15). A change to the state
that stands, or to a level that the raw level does not hold, is none. -/
def Obligations.DoorActs : Prop :=
  (∀ (i : SwitchInput) (level : Bool) (s : State),
    exec (.switchRawChange i level) s =
      .next (if (switchOf s.switches i).raw = level then s
        else s.withBlock
          (setSwitches
            (setSwitch i { switchOf s.switches i with raw := level, timer := some 0 }
              s.switches) s.toBlock))) ∧
  (∀ (c : Contact) (o : Bool) (s : State), live s.toBlock = true → s.life.settling = none →
    let other := switchOf s.switches (.contact (match c with | .a => .b | .b => .a))
    let x := switchOf s.switches (.contact c)
    let now : Option ClockTime := if s.clock.valid then some s.clock.time else none
    let watched : Prop := s.climate.state ≠ .off ∨ s.run.state ≠ .idle
    let agreed : Block := clearSource .door s.toBlock
    (x.deb = o ∨ x.raw ≠ o → exec (.doorContactChange c o) s = .next s) ∧
    (x.deb ≠ o → x.raw = o →
      ∃ t, exec (.doorContactChange c o) s = .next t ∧
        t.switches =
          { setSwitch (.contact c) ⟨o, o, none, false⟩ s.switches with
            disagree := o != other.deb } ∧
        (s.life.power = .standby → t.life.power = .awake ∧ t.life.wake = some .door) ∧
        (o = true → other.deb = false →
          (∀ l, (t.share.loads.get l).locks.door = true) ∧ t.climate.lampMark = false ∧
          t.climate.reasons.door = true ∧
          (s.climate.state = .active → t.climate.state = .suspended) ∧
          (s.run.state = .running → t.run.hold.door = true ∧
            t.run.step.doorCount = min 255 (s.run.step.doorCount + 1) ∧
            t.run.step.lastDoor = now ∧
            t.run.step.firstDoor =
              (if s.run.step.doorCount = 0 then now else s.run.step.firstDoor) ∧
            t.run.step.doorCycle =
              (if s.run.phase = some .prompt ∧ s.run.step.doorCycle = .none then .opened
               else s.run.step.doorCycle)) ∧
          (s.run.state ≠ .running → t.run = s.run) ∧
          (watched → t.attn = (raiseAttn .doorOpen .none s.toBlock).attn) ∧
          (¬ watched → t.attn = s.attn)) ∧
        (o = false → other.deb = false →
          (∀ l, (t.share.loads.get l).locks.door = false) ∧ t.climate.reasons.door = false ∧
          (s.climate.state = .suspended →
            t.climate.state =
              if s.climate.reasons.runHold || s.climate.reasons.silent || s.climate.reasons.sensor
              then .suspended else .active) ∧
          (s.run.state = .running → t.run.hold.door = false ∧
            t.run.step =
              { s.run.step with
                doorCycle :=
                  if s.run.phase = some .prompt ∧ s.run.step.doorCycle = .opened then .cycled
                  else s.run.step.doorCycle }) ∧
          (s.run.state ≠ .running → t.run = s.run) ∧
          (watched → t.attn = (clearAttn .doorOpen agreed).attn) ∧
          (¬ watched → t.attn = agreed.attn)) ∧
        (other.deb = true → t.climate = s.climate ∧ t.run = s.run ∧
          t.attn = if o = true then agreed.attn else s.attn) ∧
        t = { s with
          switches := t.switches, life := t.life, share := t.share, climate := t.climate
          gen := t.gen, run := t.run, attn := t.attn, silence := t.silence })) ∧
  ∀ s : State, live s.toBlock = true →
    exec .doorDisagreementTimeout s =
      .next (if s.switches.disagree = true then
          s.withBlock
            (raiseSource .door (setSwitches { s.switches with disagree := false } s.toBlock))
        else s)

/-- In a part at work past start-up: an insertion clears TANK_MISSING and returns a PAUSED transfer
to ACTIVE with its no-flow run and pause at 0; a removal pauses an ACTIVE one; a plug-in puts the
probes in STARTING; an unplug makes them INVALID and clears their fault source; each is kept as the
debounced level, and wakes a part in standby. A debounced electrode change derives the level anew,
counted upward to the first dry one, and the DRY_LEVEL interlock follows a level that changes. A
change to the state that stands, or to a level that the input's raw level does not hold, is none.
That an unplug keeps the probes' last values and empties their windows and counts is the model's
choice (log 26). -/
def Obligations.TankPlugAndElectrodesAct : Prop :=
  ∀ s : State, live s.toBlock = true → s.life.settling = none →
    let kept := fun (i : SwitchInput) (v : Bool) => setSwitch i ⟨v, v, none, false⟩ s.switches
    let tank := s.switches.tank
    let plug := s.switches.plug
    ((tank.deb = true ∨ tank.raw = false → exec .tankInsertion s = .next s) ∧
      (tank.deb = false ∨ tank.raw = true → exec .tankRemoval s = .next s) ∧
      (plug.deb = true ∨ plug.raw = false → exec .plugIn s = .next s) ∧
      (plug.deb = false ∨ plug.raw = true → exec .unplug s = .next s) ∧
      ∀ (e : Electrode) (wet : Bool),
        (switchOf s.switches (.electrode e)).deb = wet ∨
          (switchOf s.switches (.electrode e)).raw ≠ wet →
        exec (.electrodeChange e wet) s = .next s) ∧
    (tank.deb = false → tank.raw = true →
      ∃ t, exec .tankInsertion s = .next t ∧ t.switches = kept .tank true ∧
        t.attn.has .tankMissing = false ∧
        (∀ c, (s.channel c).state = .paused → (t.channel c).state = .active ∧
          (t.channel c).noFlow = 0 ∧ (t.channel c).pauseMs = 0 ∧
          (t.channel c).strokes = (s.channel c).strokes) ∧
        (s.life.power = .standby → t.life.wake = some .tank) ∧
        t = { s with
          switches := t.switches, life := t.life, climate := t.climate, share := t.share
          gen := t.gen, fill := t.fill, drain := t.drain, descale := t.descale, attn := t.attn
          store := t.store, silence := t.silence }) ∧
    (tank.deb = true → tank.raw = false →
      ∃ t, exec .tankRemoval s = .next t ∧ t.switches = kept .tank false ∧
        (∀ c, t.channel c =
          if (s.channel c).state = .active then
            { s.channel c with state := .paused, pauseMs := 0 } else s.channel c) ∧
        (s.life.power = .standby → t.life.wake = some .tank) ∧
        t = { s with
          switches := t.switches, life := t.life, share := t.share, fill := t.fill
          drain := t.drain, descale := t.descale, silence := t.silence }) ∧
    (plug.deb = false → plug.raw = true →
      ∃ t, exec .plugIn s = .next t ∧ t.switches = kept .plug true ∧
        t.sensors =
          { s.sensors with probe1 := .starting, probe2 := .starting, probe3 := .starting } ∧
        (s.life.power = .standby → t.life.wake = some .probe) ∧
        t = { s with
          switches := t.switches, life := t.life, share := t.share, sensors := t.sensors
          silence := t.silence }) ∧
    (plug.deb = true → plug.raw = false →
      ∃ t, exec .unplug s = .next t ∧ t.switches = kept .plug false ∧
        t.sensors.probe1 = { s.sensors.probe1 with validity := .invalid, run := 0, window := [] } ∧
        t.sensors.probe2 = { s.sensors.probe2 with validity := .invalid, run := 0, window := [] } ∧
        t.sensors.probe3 = { s.sensors.probe3 with validity := .invalid, run := 0, window := [] } ∧
        t.sensors.cavity = s.sensors.cavity ∧ t.sensors.generator = s.sensors.generator ∧
        t.sensors.moisture = s.sensors.moisture ∧
        t.attn = s.attn.clearSource .probe ∧
        (s.life.power = .standby → t.life.wake = some .probe) ∧
        t = { s with
          switches := t.switches, life := t.life, share := t.share, sensors := t.sensors
          attn := t.attn, silence := t.silence }) ∧
    ∀ (e : Electrode) (wet : Bool), (switchOf s.switches (.electrode e)).deb ≠ wet →
      (switchOf s.switches (.electrode e)).raw = wet →
      ∃ t, exec (.electrodeChange e wet) s = .next t ∧ t.switches = kept (.electrode e) wet ∧
        t.gen.level =
          (if t.switches.eLow.deb = false then .dry
           else if t.switches.eNormal.deb = false then .low
           else if t.switches.eHigh.deb = false then .normal else .high) ∧
        (t.gen.level ≠ s.gen.level →
          t.share.loads.gen.locks.dryLevel = decide (t.gen.level = .dry)) ∧
        t = { s with
          switches := t.switches, gen := t.gen, share := t.share, fill := t.fill
          drain := t.drain, descale := t.descale, attn := t.attn, store := t.store }

/-- With none in flight the event changes nothing. Else the completed write's contents become its
record and no other record changes. In a settling interval with no flush no write is taken.
Otherwise the first pending write of the lowest class (DESCALE, SCALE, CHECKPOINT, SETTINGS, slots)
that may still be taken goes into flight: every record in normal service and in a RESTART's flush,
DESCALE, SCALE and CHECKPOINT after a mains loss, DESCALE and SCALE under the RESET line. When none
is left such a flush writes its START NOTE, with the records whose writes still wait and the reset
mark. That note's completion ends the flush's writing, and where a release of the RESET line waits
with the supply present, the part starts with cause RESET_LINE; with the mains lost since, a release
that waits makes no start (the model's choice, log 45). -/
def Obligations.WriteCompletes : Prop :=
  (∀ s : State, s.store.inFlight = none → exec .retainedWriteComplete s = .next s) ∧
  (∀ (w : Write) (s : State), s.store.inFlight = some w → w.record ≠ .startNote →
    let rank : RecordName → Nat := fun r =>
      match r with
      | .descale => 0 | .scale => 1 | .checkpoint => 2 | .settings => 3 | .slot _ => 4
      | .startNote => 5
    let serves : RecordName → Bool := fun r =>
      match s.life.flush with
      | .none | .restart => decide (rank r ≤ 4)
      | .mains => decide (rank r ≤ 2)
      | .resetLine => decide (rank r ≤ 1)
    let q := s.store.queue
    let waits := s.life.settling.isSome ∧ s.life.flush = .none
    ∃ t, exec .retainedWriteComplete s = .next t ∧
      t.store.settings = (match w with | .settings v => v | _ => s.store.settings) ∧
      t.store.scale = (match w with | .scale v => v | _ => s.store.scale) ∧
      t.store.descale = (match w with | .descale v => v | _ => s.store.descale) ∧
      t.store.checkpoint = (match w with | .checkpoint v => v | _ => s.store.checkpoint) ∧
      (∀ m : Fin 16, t.store.slots.get m =
        match w with
        | .slot n v => if m = n then v else s.store.slots.get m
        | _ => s.store.slots.get m) ∧
      t.store.note = s.store.note ∧
      (waits → t.store.inFlight = none ∧ t.store.queue = q ∧ t.life = s.life) ∧
      (¬ waits → ∀ x, x ∈ q → serves x.record = true →
        (∀ y ∈ q, serves y.record = true → rank x.record ≤ rank y.record) →
        (q.filter fun y => decide (rank y.record = rank x.record)).head? = some x →
        t.store.inFlight = some x ∧ t.life = s.life ∧
        t.store.queue = q.filter fun y => decide (y.record ≠ x.record)) ∧
      (¬ waits → (∀ y ∈ q, serves y.record = false) →
        t.store.queue = q ∧
        (s.life.note = .waiting → s.life.flush = .mains ∨ s.life.flush = .resetLine →
          t.life = { s.life with note := .inFlight } ∧
          t.store.inFlight =
            some (.startNote
              ⟨allRecords.filter fun r => q.any fun y => decide (y.record = r),
                s.life.noteMark⟩)) ∧
        (s.life.note ≠ .waiting ∨ s.life.flush = .none ∨ s.life.flush = .restart →
          t.store.inFlight = none ∧ t.life = s.life)) ∧
      t = s.withBlock (setLife t.life (setStore t.store s.toBlock))) ∧
  (∀ (v : StartNote) (s : State), s.store.inFlight = some (.startNote v) →
    s.life.releaseDue = none ∨ s.life.mainsLost = true →
    exec .retainedWriteComplete s =
      .next (s.withBlock
        (setLife { s.life with note := .written }
          (setStore { s.store with note := v, inFlight := none } s.toBlock)))) ∧
  ∀ (v : StartNote) (x : StartInputs) (s : State), s.store.inFlight = some (.startNote v) →
    s.life.releaseDue = some x → s.life.mainsLost = false →
    ∃ t, exec .retainedWriteComplete s = .next t ∧ t.life.start.cause = .resetLine ∧
      t.life.settling = some 0 ∧ t.life.flush = .none ∧ t.straps = s.straps ∧
      t.store.note = ⟨[], false⟩ ∧
      t.life.start.lost =
        if x.failed.contains .startNote then [] else allRecords.filter v.lost.contains

/-- A cold start reads the straps, unless a mains or reset flush has its note still to write, and
with the RESET line asserted it waits for the release (log 20: also on a part at work); its cause is
POWER_ON if the oscillator stopped, else MAINS_RETURN. A crossing after a mains loss whose note is
written starts with MAINS_RETURN, the oscillator running (log 19); under the RESET line its start
waits, and one that a supply come up made wait already keeps what it found (log 20); before the note
it changes nothing. A RESTART whose flush is complete, and a release of the RESET line whose note is
written, keep the straps. Each start takes settings, account, descale, checkpoint, slots and note
from the retained records, with the failed ones replaced, clamps the budget and the remainder, forms
the start record, discards the checkpoint where the cause, the mark or a descale says so, and queues
the writes these changes ask for. The switches keep their raw levels, debounced at their safe
values, all to be read; the generator is IDLE, or in DESCALE for a retained descale, at DRY, with no
demand, mark or claim; the silence timer runs from 0 if its condition holds; the attention list
holds, in code order and PENDING, the entries of the conditions that hold; climate, shares,
channels, procedure, sensors and link are at their start states (interlocks and reasons: logs 32,
33; the GEN row: log 36). How a kept checkpoint's run goes on is CheckpointIsRestoredOrEnded's. An
assertion of the line on a part at work holds every load off, ends the transfers and begins its
flush; a second changes nothing. -/
def Obligations.StartsRebuildThePart : Prop :=
  let started : StartCause → StartInputs → State → State → Prop := fun cause x s t =>
    let k : DescaleRec := if x.failed.contains .descale then .initial else s.store.descale
    let v : Settings :=
      if x.failed.contains .settings then defaultSettings t.straps.mains else s.store.settings
    let a : ScaleRec :=
      if x.failed.contains .scale then ⟨dueThreshold t.straps.cavity, 0, 0⟩ else s.store.scale
    let c : Option Checkpoint :=
      if x.failed.contains .checkpoint then none else s.store.checkpoint
    let note : StartNote :=
      if x.failed.contains .startNote then ⟨[], false⟩ else s.store.note
    let discarded : Bool :=
      decide (cause = .restartRequest) || decide (cause = .resetLine) || note.resetMark ||
        decide (k.phase ≠ .idle)
    let valid : Bool := s.clock.valid && !x.oscStopped
    let now : Option ClockTime := if valid then some s.clock.time else none
    let locked : Bool :=
      k.rinseOwed || decide (lockThreshold t.straps.cavity ≤ a.scale)
    let due : Bool :=
      decide (dueThreshold t.straps.cavity ≤ a.scale ∧ a.scale < lockThreshold t.straps.cavity)
    let entry : Bool → AttnKind → Detail → List Entry := fun holds kind detail =>
      if holds then [⟨kind, .pending, now, detail⟩] else []
    let input : Switch → Bool → Switch := fun y safe => ⟨y.raw, safe, some 0, true⟩
    t.life =
      { settling := some 0, mainsLost := false, resetLine := false, flush := .none
        note := .waiting, noteMark := false, releaseDue := none, coldDue := none
        power := .awake, wake := none
        start :=
          ⟨cause, allRecords.filter x.failed.contains, allRecords.filter note.lost.contains,
            x.oscStopped, discarded && c.isSome⟩
        startClock := now } ∧
    t.clock = (if x.oscStopped then ⟨⟨0, 0⟩, false⟩ else s.clock) ∧
    t.settings = { v with budget := max 1200 (min (budgetMax t.straps.mains) v.budget) } ∧
    t.gen =
      { state := if k.phase = .idle then .idle else .descale
        level := .dry, demand := 0, prio := 2, dryFire := false, serviceDrain := false
        descaleTake := false, held := none
        account := if a.rw < v.kf then a else { a with rw := 0 }
        fillRefused := false } ∧
    t.store.settings = v ∧ t.store.scale = a ∧ t.store.descale = k ∧
    (∀ n : Fin 16, t.store.slots.get n =
      if x.failed.contains (.slot n) then ⟨none, 0⟩ else s.store.slots.get n) ∧
    t.store.checkpoint = (if discarded then none else c) ∧ t.store.note = ⟨[], false⟩ ∧
    t.store.inFlight = none ∧
    t.store.queue =
      (if t.settings = v then [] else [.settings t.settings]) ++
        (if a.rw < v.kf then [] else [.scale t.gen.account]) ++
        (if discarded = true ∨ c = none then []
         else [.checkpoint (if t.run.state = .idle then none else checkpointOf t.toBlock)]) ∧
    t.descale = .initial k ∧ t.runCounter = c.elim 0 Checkpoint.runId ∧
    (discarded = true ∨ c = none → t.run = .cleared ∧ t.reports = ⟨[], false⟩) ∧
    (k.phase ≠ .idle → t.climate.source = .run) ∧
    (k.phase = .idle → t.run.state = .idle → t.climate.source = .link) ∧
    t.climate = { Climate.initial with source := t.climate.source } ∧ t.share = .initial ∧
    t.fill = .initial ∧ t.drain = .initial ∧ t.sensors = .initial ∧ t.link = .initial ∧
    t.switches =
      { contactA := input s.switches.contactA true, contactB := input s.switches.contactB true
        tank := input s.switches.tank false, plug := input s.switches.plug false
        eLow := input s.switches.eLow false, eNormal := input s.switches.eNormal false
        eHigh := input s.switches.eHigh false, disagree := false } ∧
    t.silence =
      { running := decide (k.phase ≠ .idle ∨ t.run.state ≠ .idle), ms := 0, mark := false } ∧
    t.attn =
      { entries :=
          entry (decide (t.run.state = .running)) .powerRestored .none ++
            entry locked .steamLocked .none ++
            entry (!discarded && c.isSome && decide (t.run.state = .idle)) .runEnded
              (.runEnd .powerLoss (c.elim 0 Checkpoint.runId)) ++
            entry (!valid) .clockInvalid .none ++ entry due .descaleDue .none
        chain := [], mask := [], threshold := 7 }
  (∀ (x : ColdInputs) (s : State),
    ((s.life.flush = .mains ∨ s.life.flush = .resetLine) → s.life.note ≠ .written →
      exec (.coldStart x) s = .next s) ∧
    (s.life.flush = .none ∨ s.life.flush = .restart ∨ s.life.note = .written →
      (s.life.resetLine = false →
        ∃ t, exec (.coldStart x) s = .next t ∧ t.straps = strapsOf x.pins ∧ t.pins = x.pins ∧
          started (if x.found.oscStopped then .powerOn else .mainsReturn) x.found s t) ∧
      (s.life.resetLine = true →
        exec (.coldStart x) s =
          .next (s.withBlock (setLife { s.life with coldDue := some x } s.toBlock))))) ∧
  (∀ s : State, s.life.mainsLost = true → s.life.note = .written → s.life.resetLine = false →
    ∃ t, exec .zeroCrossing s = .next t ∧ t.straps = strapsOf s.pins ∧ t.pins = s.pins ∧
      started .mainsReturn ⟨false, []⟩ s t) ∧
  (∀ s : State, s.life.mainsLost = true →
    (s.life.note ≠ .written → exec .zeroCrossing s = .next s) ∧
    (s.life.note = .written → s.life.resetLine = true →
      exec .zeroCrossing s =
        .next (s.withBlock
          (setLife
            { s.life with coldDue := some (s.life.coldDue.getD ⟨s.pins, ⟨false, []⟩⟩) }
            s.toBlock)))) ∧
  (∀ (x : StartInputs) (s : State), s.life.flush = .restart → s.store.inFlight = none →
    s.store.queue = [] → s.life.mainsLost = false → s.life.resetLine = false →
    ∃ t, exec (.restartRequestStart x) s = .next t ∧ t.straps = s.straps ∧ t.pins = s.pins ∧
      started .restartRequest x s t) ∧
  (∀ (x : StartInputs) (s : State), s.life.resetLine = false →
    exec (.resetLineRelease x) s = .next s) ∧
  (∀ (x : StartInputs) (c : ColdInputs) (s : State), s.life.resetLine = true →
    s.life.coldDue = some c →
    ∃ t, exec (.resetLineRelease x) s = .next t ∧ t.straps = strapsOf c.pins ∧ t.pins = c.pins ∧
      started (if c.found.oscStopped then .powerOn else .mainsReturn) c.found s t) ∧
  (∀ (x : StartInputs) (s : State), s.life.resetLine = true → s.life.coldDue = none →
    (s.life.mainsLost = true →
      exec (.resetLineRelease x) s =
        .next (s.withBlock (setLife { s.life with resetLine := false } s.toBlock))) ∧
    (s.life.mainsLost = false → s.life.note = .written →
      ∃ t, exec (.resetLineRelease x) s = .next t ∧ t.straps = s.straps ∧ t.pins = s.pins ∧
        started .resetLine x s t) ∧
    (s.life.mainsLost = false → s.life.note ≠ .written →
      exec (.resetLineRelease x) s =
        .next (s.withBlock
          (setLife { s.life with resetLine := false, releaseDue := some x } s.toBlock)))) ∧
  (∀ s : State, s.life.resetLine = true → exec .resetLineAssert s = .next s) ∧
  ∀ s : State, live s.toBlock = true →
    ∃ t, exec .resetLineAssert s = .next t ∧ t.life.resetLine = true ∧
      t.life.flush = .resetLine ∧ t.life.noteMark = true ∧
      (∀ l, (t.share.loads.get l).locks.mainsLoss = true) ∧ t.fill.inFlight = false ∧
      t.drain.inFlight = false ∧ t.link.owed = none ∧
      t.descale.kept = s.descale.kept ∧ t.gen.state = s.gen.state ∧
      t = { s with
        life := t.life, share := t.share, gen := t.gen, fill := t.fill, drain := t.drain
        descale := t.descale, attn := t.attn, store := t.store, link := t.link }

/-- At a cold start with a sound checkpoint that nothing discards: with the clock not valid, the
slot not HELD or its write count another, or a start not ahead and a checkpoint older than the
resume window, absent or from the future, the run ends with POWER_LOSS: RUN_ENDED, a report if it
was RUNNING, no checkpoint kept. A PENDING one whose start is ahead waits on. Any other enters
RUNNING held by POWER, with POWER_RESTORED, at the checkpoint's step, phase and counts, or at step
1, delayed. At the end of start-up a restored step is started: DOOR and SENSOR taken, the step
written with RUN_HOLD, the checkpoint's phase entered. (A RUNNING checkpoint without a phase begins
as a delayed start, log 13; a step the recipe lacks, log 40; the context until the end of start-up,
log 48.) -/
def Obligations.CheckpointIsRestoredOrEnded : Prop :=
  (∀ (x : ColdInputs) (s : State), s.life.resetLine = false →
    s.life.flush = .none ∨ s.life.flush = .restart ∨ s.life.note = .written →
    ∀ k, s.store.checkpoint = some k → x.found.failed.contains .checkpoint = false →
    x.found.failed.contains .descale = true ∨ s.store.descale.phase = .idle →
    x.found.failed.contains .startNote = true ∨ s.store.note.resetMark = false →
    let now := s.clock.time
    let valid : Bool := s.clock.valid && !x.found.oscStopped
    let slot := s.store.slots.get k.slot
    let recipe : Option Recipe :=
      if x.found.failed.contains (.slot k.slot) = true ∨ slot.count ≠ k.writeCount then none
      else slot.recipe
    let minutes : Nat :=
      if x.found.failed.contains .settings then 10 else s.store.settings.resumeWindow
    let ahead : Bool := !k.running && k.startTime.any fun u => decide (0 < u.diff now)
    let recent : Bool :=
      k.time.any fun u => decide (0 ≤ now.diff u ∧ now.diff u ≤ (minutes * 60 : Nat))
    let taken : Recipe → Run := fun r =>
      { Run.cleared with
        recipe := some r, slot := some k.slot, writeCount := k.writeCount, runId := k.runId
        startMode := k.startMode }
    ∃ t, exec (.coldStart x) s = .next t ∧
      (valid = false ∨ recipe = none ∨ (ahead = false ∧ recent = false) →
        t.run = .cleared ∧ t.climate.source = .link ∧ t.attn.has .powerRestored = false ∧
        (t.attn.find .runEnded).map Entry.detail = some (.runEnd .powerLoss k.runId) ∧
        t.reports.list =
          (if k.running then
            [⟨k.runId, k.stepIndex, .powerLoss, k.active, 0, 0, none, none, none, k.heat,
              false, false, false, false, 0⟩]
           else []) ∧
        .checkpoint none ∈ t.store.queue) ∧
      ∀ r, recipe = some r → valid = true →
        (ahead = true →
          t.run = { taken r with state := .pending, startTime := k.startTime } ∧
          t.climate.source = .run ∧ t.attn.has .powerRestored = false ∧
          t.attn.has .runEnded = false ∧ t.reports.list = [] ∧
          .checkpoint (checkpointOf t.toBlock) ∈ t.store.queue) ∧
        (ahead = false → recent = true →
          t.climate.source = .run ∧ t.attn.has .powerRestored = true ∧
          t.attn.has .runEnded = false ∧ t.reports.list = [] ∧
          .checkpoint (checkpointOf t.toBlock) ∈ t.store.queue ∧
          (∀ p, k.phase = some p → k.running = true →
            t.run =
              { taken r with
                state := .running, stepIndex := k.stepIndex, phase := some p
                hold := { HoldSet.empty with power := true }
                step := { StepFields.initial with active := k.active, heat := k.heat }
                resume := some (.at p k.active k.heat) }) ∧
          (k.running = false ∨ k.phase = none →
            t.run =
              { taken r with
                state := .running, stepIndex := 1, delayed := true
                hold := { HoldSet.empty with power := true }, resume := some .fresh }))) ∧
  ∀ (x : Samples) (s : State), live s.toBlock = true → s.life.settling = some 3 →
    s.run.state = .running → ∀ z, s.run.resume = some z →
    ∀ y, currentStep s.toBlock = some y → s.run.hold = { HoldSet.empty with power := true } →
    (∀ v, inSpan .cavity x.cavity = some v → v < 3000) →
    let first : Bool :=
      decide (y.prompt = .none) || (s.run.delayed && decide (s.run.stepIndex = 1))
    ∃ t, exec (.samplingExpiry x) s = .next t ∧ t.run.resume = none ∧
      t.run.state = .running ∧ t.run.stepIndex = s.run.stepIndex ∧
      t.run.recipe = s.run.recipe ∧ t.run.stepTimer = true ∧
      t.run.hold =
        { HoldSet.empty with
          power := true, door := s.switches.contactA.deb || s.switches.contactB.deb
          sensor := decide (t.sensors.cavity.validity ≠ .valid) } ∧
      (∀ m, y.mode = .cook m → s.climate.overtemp = false → s.climate.state = .off →
        t.climate.state = .suspended ∧ t.climate.reasons.runHold = true ∧
        t.climate.mode = m) ∧
      .checkpoint (checkpointOf t.toBlock) ∈ t.store.inFlight.toList ++ t.store.queue ∧
      (z = .fresh → t.run.step.active = 0 ∧
        t.run.phase =
          some (if y.preheat then .preheat else if first then .active else .prompt)) ∧
      ∀ p n h, z = .at p n h →
        t.run.phase = some p ∧ t.run.step.active = (if p = .active then n else 0) ∧
        t.run.step.heat = (if p = .active then h else 0) ∧ t.run.step.preheat = 0 ∧
        (p = .prompt → t.attn.has .stepPrompt = true) ∧
        (p = .active → y.endKind = .confirm → t.attn.has .stepCheck = true)
end

