-- ==== Sys2Proof/Laws/State.lean ====
section
/-! SUPPORT. The state's update lemmas: one per field and update of the setters, each true by rfl. -/

namespace Sys2Proof.Machine

/-! ### setClock -/

@[simp] theorem setClock_clock (c : Clock) (b : Block) :
    (setClock c b).clock = c := rfl
@[simp] theorem setClock_settings (c : Clock) (b : Block) :
    (setClock c b).settings = b.settings := rfl
@[simp] theorem setClock_straps (c : Clock) (b : Block) : (setClock c b).straps = b.straps := rfl
@[simp] theorem setClock_pins (c : Clock) (b : Block) : (setClock c b).pins = b.pins := rfl
@[simp] theorem setClock_life (c : Clock) (b : Block) : (setClock c b).life = b.life := rfl
@[simp] theorem setClock_climate (c : Clock) (b : Block) : (setClock c b).climate = b.climate := rfl
@[simp] theorem setClock_share (c : Clock) (b : Block) : (setClock c b).share = b.share := rfl
@[simp] theorem setClock_gen (c : Clock) (b : Block) : (setClock c b).gen = b.gen := rfl
@[simp] theorem setClock_fill (c : Clock) (b : Block) : (setClock c b).fill = b.fill := rfl
@[simp] theorem setClock_drain (c : Clock) (b : Block) : (setClock c b).drain = b.drain := rfl
@[simp] theorem setClock_descale (c : Clock) (b : Block) : (setClock c b).descale = b.descale := rfl
@[simp] theorem setClock_run (c : Clock) (b : Block) : (setClock c b).run = b.run := rfl
@[simp] theorem setClock_runCounter (c : Clock) (b : Block) :
    (setClock c b).runCounter = b.runCounter := rfl
@[simp] theorem setClock_reports (c : Clock) (b : Block) : (setClock c b).reports = b.reports := rfl
@[simp] theorem setClock_attn (c : Clock) (b : Block) : (setClock c b).attn = b.attn := rfl
@[simp] theorem setClock_sensors (c : Clock) (b : Block) : (setClock c b).sensors = b.sensors := rfl
@[simp] theorem setClock_switches (c : Clock) (b : Block) :
    (setClock c b).switches = b.switches := rfl
@[simp] theorem setClock_store (c : Clock) (b : Block) : (setClock c b).store = b.store := rfl
@[simp] theorem setClock_link (c : Clock) (b : Block) : (setClock c b).link = b.link := rfl
@[simp] theorem setClock_silence (c : Clock) (b : Block) : (setClock c b).silence = b.silence := rfl

/-! ### setSettings -/

@[simp] theorem setSettings_clock (v : Settings) (b : Block) :
    (setSettings v b).clock = b.clock := rfl
@[simp] theorem setSettings_settings (v : Settings) (b : Block) :
    (setSettings v b).settings = v := rfl
@[simp] theorem setSettings_straps (v : Settings) (b : Block) :
    (setSettings v b).straps = b.straps := rfl
@[simp] theorem setSettings_pins (v : Settings) (b : Block) : (setSettings v b).pins = b.pins := rfl
@[simp] theorem setSettings_life (v : Settings) (b : Block) : (setSettings v b).life = b.life := rfl
@[simp] theorem setSettings_climate (v : Settings) (b : Block) :
    (setSettings v b).climate = b.climate := rfl
@[simp] theorem setSettings_share (v : Settings) (b : Block) :
    (setSettings v b).share = b.share := rfl
@[simp] theorem setSettings_gen (v : Settings) (b : Block) : (setSettings v b).gen = b.gen := rfl
@[simp] theorem setSettings_fill (v : Settings) (b : Block) : (setSettings v b).fill = b.fill := rfl
@[simp] theorem setSettings_drain (v : Settings) (b : Block) :
    (setSettings v b).drain = b.drain := rfl
@[simp] theorem setSettings_descale (v : Settings) (b : Block) :
    (setSettings v b).descale = b.descale := rfl
@[simp] theorem setSettings_run (v : Settings) (b : Block) : (setSettings v b).run = b.run := rfl
@[simp] theorem setSettings_runCounter (v : Settings) (b : Block) :
    (setSettings v b).runCounter = b.runCounter := rfl
@[simp] theorem setSettings_reports (v : Settings) (b : Block) :
    (setSettings v b).reports = b.reports := rfl
@[simp] theorem setSettings_attn (v : Settings) (b : Block) : (setSettings v b).attn = b.attn := rfl
@[simp] theorem setSettings_sensors (v : Settings) (b : Block) :
    (setSettings v b).sensors = b.sensors := rfl
@[simp] theorem setSettings_switches (v : Settings) (b : Block) :
    (setSettings v b).switches = b.switches := rfl
@[simp] theorem setSettings_store (v : Settings) (b : Block) :
    (setSettings v b).store = b.store := rfl
@[simp] theorem setSettings_link (v : Settings) (b : Block) : (setSettings v b).link = b.link := rfl
@[simp] theorem setSettings_silence (v : Settings) (b : Block) :
    (setSettings v b).silence = b.silence := rfl

/-! ### setLife -/

@[simp] theorem setLife_clock (l : Life) (b : Block) : (setLife l b).clock = b.clock := rfl
@[simp] theorem setLife_settings (l : Life) (b : Block) : (setLife l b).settings = b.settings := rfl
@[simp] theorem setLife_straps (l : Life) (b : Block) : (setLife l b).straps = b.straps := rfl
@[simp] theorem setLife_pins (l : Life) (b : Block) : (setLife l b).pins = b.pins := rfl
@[simp] theorem setLife_life (l : Life) (b : Block) :
    (setLife l b).life = l := rfl
@[simp] theorem setLife_climate (l : Life) (b : Block) : (setLife l b).climate = b.climate := rfl
@[simp] theorem setLife_share (l : Life) (b : Block) : (setLife l b).share = b.share := rfl
@[simp] theorem setLife_gen (l : Life) (b : Block) : (setLife l b).gen = b.gen := rfl
@[simp] theorem setLife_fill (l : Life) (b : Block) : (setLife l b).fill = b.fill := rfl
@[simp] theorem setLife_drain (l : Life) (b : Block) : (setLife l b).drain = b.drain := rfl
@[simp] theorem setLife_descale (l : Life) (b : Block) : (setLife l b).descale = b.descale := rfl
@[simp] theorem setLife_run (l : Life) (b : Block) : (setLife l b).run = b.run := rfl
@[simp] theorem setLife_runCounter (l : Life) (b : Block) :
    (setLife l b).runCounter = b.runCounter := rfl
@[simp] theorem setLife_reports (l : Life) (b : Block) : (setLife l b).reports = b.reports := rfl
@[simp] theorem setLife_attn (l : Life) (b : Block) : (setLife l b).attn = b.attn := rfl
@[simp] theorem setLife_sensors (l : Life) (b : Block) : (setLife l b).sensors = b.sensors := rfl
@[simp] theorem setLife_switches (l : Life) (b : Block) : (setLife l b).switches = b.switches := rfl
@[simp] theorem setLife_store (l : Life) (b : Block) : (setLife l b).store = b.store := rfl
@[simp] theorem setLife_link (l : Life) (b : Block) : (setLife l b).link = b.link := rfl
@[simp] theorem setLife_silence (l : Life) (b : Block) : (setLife l b).silence = b.silence := rfl

/-! ### setClimate -/

@[simp] theorem setClimate_clock (c : Climate) (b : Block) : (setClimate c b).clock = b.clock := rfl
@[simp] theorem setClimate_settings (c : Climate) (b : Block) :
    (setClimate c b).settings = b.settings := rfl
@[simp] theorem setClimate_straps (c : Climate) (b : Block) :
    (setClimate c b).straps = b.straps := rfl
@[simp] theorem setClimate_pins (c : Climate) (b : Block) : (setClimate c b).pins = b.pins := rfl
@[simp] theorem setClimate_life (c : Climate) (b : Block) : (setClimate c b).life = b.life := rfl
@[simp] theorem setClimate_climate (c : Climate) (b : Block) :
    (setClimate c b).climate = c := rfl
@[simp] theorem setClimate_share (c : Climate) (b : Block) : (setClimate c b).share = b.share := rfl
@[simp] theorem setClimate_gen (c : Climate) (b : Block) : (setClimate c b).gen = b.gen := rfl
@[simp] theorem setClimate_fill (c : Climate) (b : Block) : (setClimate c b).fill = b.fill := rfl
@[simp] theorem setClimate_drain (c : Climate) (b : Block) : (setClimate c b).drain = b.drain := rfl
@[simp] theorem setClimate_descale (c : Climate) (b : Block) :
    (setClimate c b).descale = b.descale := rfl
@[simp] theorem setClimate_run (c : Climate) (b : Block) : (setClimate c b).run = b.run := rfl
@[simp] theorem setClimate_runCounter (c : Climate) (b : Block) :
    (setClimate c b).runCounter = b.runCounter := rfl
@[simp] theorem setClimate_reports (c : Climate) (b : Block) :
    (setClimate c b).reports = b.reports := rfl
@[simp] theorem setClimate_attn (c : Climate) (b : Block) : (setClimate c b).attn = b.attn := rfl
@[simp] theorem setClimate_sensors (c : Climate) (b : Block) :
    (setClimate c b).sensors = b.sensors := rfl
@[simp] theorem setClimate_switches (c : Climate) (b : Block) :
    (setClimate c b).switches = b.switches := rfl
@[simp] theorem setClimate_store (c : Climate) (b : Block) : (setClimate c b).store = b.store := rfl
@[simp] theorem setClimate_link (c : Climate) (b : Block) : (setClimate c b).link = b.link := rfl
@[simp] theorem setClimate_silence (c : Climate) (b : Block) :
    (setClimate c b).silence = b.silence := rfl

/-! ### setShare -/

@[simp] theorem setShare_clock (p : Share) (b : Block) : (setShare p b).clock = b.clock := rfl
@[simp] theorem setShare_settings (p : Share) (b : Block) :
    (setShare p b).settings = b.settings := rfl
@[simp] theorem setShare_straps (p : Share) (b : Block) : (setShare p b).straps = b.straps := rfl
@[simp] theorem setShare_pins (p : Share) (b : Block) : (setShare p b).pins = b.pins := rfl
@[simp] theorem setShare_life (p : Share) (b : Block) : (setShare p b).life = b.life := rfl
@[simp] theorem setShare_climate (p : Share) (b : Block) : (setShare p b).climate = b.climate := rfl
@[simp] theorem setShare_share (p : Share) (b : Block) :
    (setShare p b).share = p := rfl
@[simp] theorem setShare_gen (p : Share) (b : Block) : (setShare p b).gen = b.gen := rfl
@[simp] theorem setShare_fill (p : Share) (b : Block) : (setShare p b).fill = b.fill := rfl
@[simp] theorem setShare_drain (p : Share) (b : Block) : (setShare p b).drain = b.drain := rfl
@[simp] theorem setShare_descale (p : Share) (b : Block) : (setShare p b).descale = b.descale := rfl
@[simp] theorem setShare_run (p : Share) (b : Block) : (setShare p b).run = b.run := rfl
@[simp] theorem setShare_runCounter (p : Share) (b : Block) :
    (setShare p b).runCounter = b.runCounter := rfl
@[simp] theorem setShare_reports (p : Share) (b : Block) : (setShare p b).reports = b.reports := rfl
@[simp] theorem setShare_attn (p : Share) (b : Block) : (setShare p b).attn = b.attn := rfl
@[simp] theorem setShare_sensors (p : Share) (b : Block) : (setShare p b).sensors = b.sensors := rfl
@[simp] theorem setShare_switches (p : Share) (b : Block) :
    (setShare p b).switches = b.switches := rfl
@[simp] theorem setShare_store (p : Share) (b : Block) : (setShare p b).store = b.store := rfl
@[simp] theorem setShare_link (p : Share) (b : Block) : (setShare p b).link = b.link := rfl
@[simp] theorem setShare_silence (p : Share) (b : Block) : (setShare p b).silence = b.silence := rfl

/-! ### setGen -/

@[simp] theorem setGen_clock (g : Generator) (b : Block) : (setGen g b).clock = b.clock := rfl
@[simp] theorem setGen_settings (g : Generator) (b : Block) :
    (setGen g b).settings = b.settings := rfl
@[simp] theorem setGen_straps (g : Generator) (b : Block) : (setGen g b).straps = b.straps := rfl
@[simp] theorem setGen_pins (g : Generator) (b : Block) : (setGen g b).pins = b.pins := rfl
@[simp] theorem setGen_life (g : Generator) (b : Block) : (setGen g b).life = b.life := rfl
@[simp] theorem setGen_climate (g : Generator) (b : Block) : (setGen g b).climate = b.climate := rfl
@[simp] theorem setGen_share (g : Generator) (b : Block) : (setGen g b).share = b.share := rfl
@[simp] theorem setGen_gen (g : Generator) (b : Block) :
    (setGen g b).gen = g := rfl
@[simp] theorem setGen_fill (g : Generator) (b : Block) : (setGen g b).fill = b.fill := rfl
@[simp] theorem setGen_drain (g : Generator) (b : Block) : (setGen g b).drain = b.drain := rfl
@[simp] theorem setGen_descale (g : Generator) (b : Block) : (setGen g b).descale = b.descale := rfl
@[simp] theorem setGen_run (g : Generator) (b : Block) : (setGen g b).run = b.run := rfl
@[simp] theorem setGen_runCounter (g : Generator) (b : Block) :
    (setGen g b).runCounter = b.runCounter := rfl
@[simp] theorem setGen_reports (g : Generator) (b : Block) : (setGen g b).reports = b.reports := rfl
@[simp] theorem setGen_attn (g : Generator) (b : Block) : (setGen g b).attn = b.attn := rfl
@[simp] theorem setGen_sensors (g : Generator) (b : Block) : (setGen g b).sensors = b.sensors := rfl
@[simp] theorem setGen_switches (g : Generator) (b : Block) :
    (setGen g b).switches = b.switches := rfl
@[simp] theorem setGen_store (g : Generator) (b : Block) : (setGen g b).store = b.store := rfl
@[simp] theorem setGen_link (g : Generator) (b : Block) : (setGen g b).link = b.link := rfl
@[simp] theorem setGen_silence (g : Generator) (b : Block) : (setGen g b).silence = b.silence := rfl

/-! ### setDescale -/

@[simp] theorem setDescale_clock (d : Descale) (b : Block) : (setDescale d b).clock = b.clock := rfl
@[simp] theorem setDescale_settings (d : Descale) (b : Block) :
    (setDescale d b).settings = b.settings := rfl
@[simp] theorem setDescale_straps (d : Descale) (b : Block) :
    (setDescale d b).straps = b.straps := rfl
@[simp] theorem setDescale_pins (d : Descale) (b : Block) : (setDescale d b).pins = b.pins := rfl
@[simp] theorem setDescale_life (d : Descale) (b : Block) : (setDescale d b).life = b.life := rfl
@[simp] theorem setDescale_climate (d : Descale) (b : Block) :
    (setDescale d b).climate = b.climate := rfl
@[simp] theorem setDescale_share (d : Descale) (b : Block) : (setDescale d b).share = b.share := rfl
@[simp] theorem setDescale_gen (d : Descale) (b : Block) : (setDescale d b).gen = b.gen := rfl
@[simp] theorem setDescale_fill (d : Descale) (b : Block) : (setDescale d b).fill = b.fill := rfl
@[simp] theorem setDescale_drain (d : Descale) (b : Block) : (setDescale d b).drain = b.drain := rfl
@[simp] theorem setDescale_descale (d : Descale) (b : Block) :
    (setDescale d b).descale = d := rfl
@[simp] theorem setDescale_run (d : Descale) (b : Block) : (setDescale d b).run = b.run := rfl
@[simp] theorem setDescale_runCounter (d : Descale) (b : Block) :
    (setDescale d b).runCounter = b.runCounter := rfl
@[simp] theorem setDescale_reports (d : Descale) (b : Block) :
    (setDescale d b).reports = b.reports := rfl
@[simp] theorem setDescale_attn (d : Descale) (b : Block) : (setDescale d b).attn = b.attn := rfl
@[simp] theorem setDescale_sensors (d : Descale) (b : Block) :
    (setDescale d b).sensors = b.sensors := rfl
@[simp] theorem setDescale_switches (d : Descale) (b : Block) :
    (setDescale d b).switches = b.switches := rfl
@[simp] theorem setDescale_store (d : Descale) (b : Block) : (setDescale d b).store = b.store := rfl
@[simp] theorem setDescale_link (d : Descale) (b : Block) : (setDescale d b).link = b.link := rfl
@[simp] theorem setDescale_silence (d : Descale) (b : Block) :
    (setDescale d b).silence = b.silence := rfl

/-! ### setRun -/

@[simp] theorem setRun_clock (r : Run) (b : Block) : (setRun r b).clock = b.clock := rfl
@[simp] theorem setRun_settings (r : Run) (b : Block) : (setRun r b).settings = b.settings := rfl
@[simp] theorem setRun_straps (r : Run) (b : Block) : (setRun r b).straps = b.straps := rfl
@[simp] theorem setRun_pins (r : Run) (b : Block) : (setRun r b).pins = b.pins := rfl
@[simp] theorem setRun_life (r : Run) (b : Block) : (setRun r b).life = b.life := rfl
@[simp] theorem setRun_climate (r : Run) (b : Block) : (setRun r b).climate = b.climate := rfl
@[simp] theorem setRun_share (r : Run) (b : Block) : (setRun r b).share = b.share := rfl
@[simp] theorem setRun_gen (r : Run) (b : Block) : (setRun r b).gen = b.gen := rfl
@[simp] theorem setRun_fill (r : Run) (b : Block) : (setRun r b).fill = b.fill := rfl
@[simp] theorem setRun_drain (r : Run) (b : Block) : (setRun r b).drain = b.drain := rfl
@[simp] theorem setRun_descale (r : Run) (b : Block) : (setRun r b).descale = b.descale := rfl
@[simp] theorem setRun_run (r : Run) (b : Block) :
    (setRun r b).run = r := rfl
@[simp] theorem setRun_runCounter (r : Run) (b : Block) :
    (setRun r b).runCounter = b.runCounter := rfl
@[simp] theorem setRun_reports (r : Run) (b : Block) : (setRun r b).reports = b.reports := rfl
@[simp] theorem setRun_attn (r : Run) (b : Block) : (setRun r b).attn = b.attn := rfl
@[simp] theorem setRun_sensors (r : Run) (b : Block) : (setRun r b).sensors = b.sensors := rfl
@[simp] theorem setRun_switches (r : Run) (b : Block) : (setRun r b).switches = b.switches := rfl
@[simp] theorem setRun_store (r : Run) (b : Block) : (setRun r b).store = b.store := rfl
@[simp] theorem setRun_link (r : Run) (b : Block) : (setRun r b).link = b.link := rfl
@[simp] theorem setRun_silence (r : Run) (b : Block) : (setRun r b).silence = b.silence := rfl

/-! ### setRunCounter -/

@[simp] theorem setRunCounter_clock (n : Nat) (b : Block) :
    (setRunCounter n b).clock = b.clock := rfl
@[simp] theorem setRunCounter_settings (n : Nat) (b : Block) :
    (setRunCounter n b).settings = b.settings := rfl
@[simp] theorem setRunCounter_straps (n : Nat) (b : Block) :
    (setRunCounter n b).straps = b.straps := rfl
@[simp] theorem setRunCounter_pins (n : Nat) (b : Block) : (setRunCounter n b).pins = b.pins := rfl
@[simp] theorem setRunCounter_life (n : Nat) (b : Block) : (setRunCounter n b).life = b.life := rfl
@[simp] theorem setRunCounter_climate (n : Nat) (b : Block) :
    (setRunCounter n b).climate = b.climate := rfl
@[simp] theorem setRunCounter_share (n : Nat) (b : Block) :
    (setRunCounter n b).share = b.share := rfl
@[simp] theorem setRunCounter_gen (n : Nat) (b : Block) : (setRunCounter n b).gen = b.gen := rfl
@[simp] theorem setRunCounter_fill (n : Nat) (b : Block) : (setRunCounter n b).fill = b.fill := rfl
@[simp] theorem setRunCounter_drain (n : Nat) (b : Block) :
    (setRunCounter n b).drain = b.drain := rfl
@[simp] theorem setRunCounter_descale (n : Nat) (b : Block) :
    (setRunCounter n b).descale = b.descale := rfl
@[simp] theorem setRunCounter_run (n : Nat) (b : Block) : (setRunCounter n b).run = b.run := rfl
@[simp] theorem setRunCounter_runCounter (n : Nat) (b : Block) :
    (setRunCounter n b).runCounter = n := rfl
@[simp] theorem setRunCounter_reports (n : Nat) (b : Block) :
    (setRunCounter n b).reports = b.reports := rfl
@[simp] theorem setRunCounter_attn (n : Nat) (b : Block) : (setRunCounter n b).attn = b.attn := rfl
@[simp] theorem setRunCounter_sensors (n : Nat) (b : Block) :
    (setRunCounter n b).sensors = b.sensors := rfl
@[simp] theorem setRunCounter_switches (n : Nat) (b : Block) :
    (setRunCounter n b).switches = b.switches := rfl
@[simp] theorem setRunCounter_store (n : Nat) (b : Block) :
    (setRunCounter n b).store = b.store := rfl
@[simp] theorem setRunCounter_link (n : Nat) (b : Block) : (setRunCounter n b).link = b.link := rfl
@[simp] theorem setRunCounter_silence (n : Nat) (b : Block) :
    (setRunCounter n b).silence = b.silence := rfl

/-! ### setReports -/

@[simp] theorem setReports_clock (q : Reports) (b : Block) : (setReports q b).clock = b.clock := rfl
@[simp] theorem setReports_settings (q : Reports) (b : Block) :
    (setReports q b).settings = b.settings := rfl
@[simp] theorem setReports_straps (q : Reports) (b : Block) :
    (setReports q b).straps = b.straps := rfl
@[simp] theorem setReports_pins (q : Reports) (b : Block) : (setReports q b).pins = b.pins := rfl
@[simp] theorem setReports_life (q : Reports) (b : Block) : (setReports q b).life = b.life := rfl
@[simp] theorem setReports_climate (q : Reports) (b : Block) :
    (setReports q b).climate = b.climate := rfl
@[simp] theorem setReports_share (q : Reports) (b : Block) : (setReports q b).share = b.share := rfl
@[simp] theorem setReports_gen (q : Reports) (b : Block) : (setReports q b).gen = b.gen := rfl
@[simp] theorem setReports_fill (q : Reports) (b : Block) : (setReports q b).fill = b.fill := rfl
@[simp] theorem setReports_drain (q : Reports) (b : Block) : (setReports q b).drain = b.drain := rfl
@[simp] theorem setReports_descale (q : Reports) (b : Block) :
    (setReports q b).descale = b.descale := rfl
@[simp] theorem setReports_run (q : Reports) (b : Block) : (setReports q b).run = b.run := rfl
@[simp] theorem setReports_runCounter (q : Reports) (b : Block) :
    (setReports q b).runCounter = b.runCounter := rfl
@[simp] theorem setReports_reports (q : Reports) (b : Block) :
    (setReports q b).reports = q := rfl
@[simp] theorem setReports_attn (q : Reports) (b : Block) : (setReports q b).attn = b.attn := rfl
@[simp] theorem setReports_sensors (q : Reports) (b : Block) :
    (setReports q b).sensors = b.sensors := rfl
@[simp] theorem setReports_switches (q : Reports) (b : Block) :
    (setReports q b).switches = b.switches := rfl
@[simp] theorem setReports_store (q : Reports) (b : Block) : (setReports q b).store = b.store := rfl
@[simp] theorem setReports_link (q : Reports) (b : Block) : (setReports q b).link = b.link := rfl
@[simp] theorem setReports_silence (q : Reports) (b : Block) :
    (setReports q b).silence = b.silence := rfl

/-! ### setAttn -/

@[simp] theorem setAttn_clock (a : Attn) (b : Block) : (setAttn a b).clock = b.clock := rfl
@[simp] theorem setAttn_settings (a : Attn) (b : Block) : (setAttn a b).settings = b.settings := rfl
@[simp] theorem setAttn_straps (a : Attn) (b : Block) : (setAttn a b).straps = b.straps := rfl
@[simp] theorem setAttn_pins (a : Attn) (b : Block) : (setAttn a b).pins = b.pins := rfl
@[simp] theorem setAttn_life (a : Attn) (b : Block) : (setAttn a b).life = b.life := rfl
@[simp] theorem setAttn_climate (a : Attn) (b : Block) : (setAttn a b).climate = b.climate := rfl
@[simp] theorem setAttn_share (a : Attn) (b : Block) : (setAttn a b).share = b.share := rfl
@[simp] theorem setAttn_gen (a : Attn) (b : Block) : (setAttn a b).gen = b.gen := rfl
@[simp] theorem setAttn_fill (a : Attn) (b : Block) : (setAttn a b).fill = b.fill := rfl
@[simp] theorem setAttn_drain (a : Attn) (b : Block) : (setAttn a b).drain = b.drain := rfl
@[simp] theorem setAttn_descale (a : Attn) (b : Block) : (setAttn a b).descale = b.descale := rfl
@[simp] theorem setAttn_run (a : Attn) (b : Block) : (setAttn a b).run = b.run := rfl
@[simp] theorem setAttn_runCounter (a : Attn) (b : Block) :
    (setAttn a b).runCounter = b.runCounter := rfl
@[simp] theorem setAttn_reports (a : Attn) (b : Block) : (setAttn a b).reports = b.reports := rfl
@[simp] theorem setAttn_attn (a : Attn) (b : Block) :
    (setAttn a b).attn = a := rfl
@[simp] theorem setAttn_sensors (a : Attn) (b : Block) : (setAttn a b).sensors = b.sensors := rfl
@[simp] theorem setAttn_switches (a : Attn) (b : Block) : (setAttn a b).switches = b.switches := rfl
@[simp] theorem setAttn_store (a : Attn) (b : Block) : (setAttn a b).store = b.store := rfl
@[simp] theorem setAttn_link (a : Attn) (b : Block) : (setAttn a b).link = b.link := rfl
@[simp] theorem setAttn_silence (a : Attn) (b : Block) : (setAttn a b).silence = b.silence := rfl

/-! ### setSensors -/

@[simp] theorem setSensors_clock (x : Sensors) (b : Block) : (setSensors x b).clock = b.clock := rfl
@[simp] theorem setSensors_settings (x : Sensors) (b : Block) :
    (setSensors x b).settings = b.settings := rfl
@[simp] theorem setSensors_straps (x : Sensors) (b : Block) :
    (setSensors x b).straps = b.straps := rfl
@[simp] theorem setSensors_pins (x : Sensors) (b : Block) : (setSensors x b).pins = b.pins := rfl
@[simp] theorem setSensors_life (x : Sensors) (b : Block) : (setSensors x b).life = b.life := rfl
@[simp] theorem setSensors_climate (x : Sensors) (b : Block) :
    (setSensors x b).climate = b.climate := rfl
@[simp] theorem setSensors_share (x : Sensors) (b : Block) : (setSensors x b).share = b.share := rfl
@[simp] theorem setSensors_gen (x : Sensors) (b : Block) : (setSensors x b).gen = b.gen := rfl
@[simp] theorem setSensors_fill (x : Sensors) (b : Block) : (setSensors x b).fill = b.fill := rfl
@[simp] theorem setSensors_drain (x : Sensors) (b : Block) : (setSensors x b).drain = b.drain := rfl
@[simp] theorem setSensors_descale (x : Sensors) (b : Block) :
    (setSensors x b).descale = b.descale := rfl
@[simp] theorem setSensors_run (x : Sensors) (b : Block) : (setSensors x b).run = b.run := rfl
@[simp] theorem setSensors_runCounter (x : Sensors) (b : Block) :
    (setSensors x b).runCounter = b.runCounter := rfl
@[simp] theorem setSensors_reports (x : Sensors) (b : Block) :
    (setSensors x b).reports = b.reports := rfl
@[simp] theorem setSensors_attn (x : Sensors) (b : Block) : (setSensors x b).attn = b.attn := rfl
@[simp] theorem setSensors_sensors (x : Sensors) (b : Block) :
    (setSensors x b).sensors = x := rfl
@[simp] theorem setSensors_switches (x : Sensors) (b : Block) :
    (setSensors x b).switches = b.switches := rfl
@[simp] theorem setSensors_store (x : Sensors) (b : Block) : (setSensors x b).store = b.store := rfl
@[simp] theorem setSensors_link (x : Sensors) (b : Block) : (setSensors x b).link = b.link := rfl
@[simp] theorem setSensors_silence (x : Sensors) (b : Block) :
    (setSensors x b).silence = b.silence := rfl

/-! ### setSwitches -/

@[simp] theorem setSwitches_clock (w : Switches) (b : Block) :
    (setSwitches w b).clock = b.clock := rfl
@[simp] theorem setSwitches_settings (w : Switches) (b : Block) :
    (setSwitches w b).settings = b.settings := rfl
@[simp] theorem setSwitches_straps (w : Switches) (b : Block) :
    (setSwitches w b).straps = b.straps := rfl
@[simp] theorem setSwitches_pins (w : Switches) (b : Block) : (setSwitches w b).pins = b.pins := rfl
@[simp] theorem setSwitches_life (w : Switches) (b : Block) : (setSwitches w b).life = b.life := rfl
@[simp] theorem setSwitches_climate (w : Switches) (b : Block) :
    (setSwitches w b).climate = b.climate := rfl
@[simp] theorem setSwitches_share (w : Switches) (b : Block) :
    (setSwitches w b).share = b.share := rfl
@[simp] theorem setSwitches_gen (w : Switches) (b : Block) : (setSwitches w b).gen = b.gen := rfl
@[simp] theorem setSwitches_fill (w : Switches) (b : Block) : (setSwitches w b).fill = b.fill := rfl
@[simp] theorem setSwitches_drain (w : Switches) (b : Block) :
    (setSwitches w b).drain = b.drain := rfl
@[simp] theorem setSwitches_descale (w : Switches) (b : Block) :
    (setSwitches w b).descale = b.descale := rfl
@[simp] theorem setSwitches_run (w : Switches) (b : Block) : (setSwitches w b).run = b.run := rfl
@[simp] theorem setSwitches_runCounter (w : Switches) (b : Block) :
    (setSwitches w b).runCounter = b.runCounter := rfl
@[simp] theorem setSwitches_reports (w : Switches) (b : Block) :
    (setSwitches w b).reports = b.reports := rfl
@[simp] theorem setSwitches_attn (w : Switches) (b : Block) : (setSwitches w b).attn = b.attn := rfl
@[simp] theorem setSwitches_sensors (w : Switches) (b : Block) :
    (setSwitches w b).sensors = b.sensors := rfl
@[simp] theorem setSwitches_switches (w : Switches) (b : Block) :
    (setSwitches w b).switches = w := rfl
@[simp] theorem setSwitches_store (w : Switches) (b : Block) :
    (setSwitches w b).store = b.store := rfl
@[simp] theorem setSwitches_link (w : Switches) (b : Block) : (setSwitches w b).link = b.link := rfl
@[simp] theorem setSwitches_silence (w : Switches) (b : Block) :
    (setSwitches w b).silence = b.silence := rfl

/-! ### setStore -/

@[simp] theorem setStore_clock (r : Store) (b : Block) : (setStore r b).clock = b.clock := rfl
@[simp] theorem setStore_settings (r : Store) (b : Block) :
    (setStore r b).settings = b.settings := rfl
@[simp] theorem setStore_straps (r : Store) (b : Block) : (setStore r b).straps = b.straps := rfl
@[simp] theorem setStore_pins (r : Store) (b : Block) : (setStore r b).pins = b.pins := rfl
@[simp] theorem setStore_life (r : Store) (b : Block) : (setStore r b).life = b.life := rfl
@[simp] theorem setStore_climate (r : Store) (b : Block) : (setStore r b).climate = b.climate := rfl
@[simp] theorem setStore_share (r : Store) (b : Block) : (setStore r b).share = b.share := rfl
@[simp] theorem setStore_gen (r : Store) (b : Block) : (setStore r b).gen = b.gen := rfl
@[simp] theorem setStore_fill (r : Store) (b : Block) : (setStore r b).fill = b.fill := rfl
@[simp] theorem setStore_drain (r : Store) (b : Block) : (setStore r b).drain = b.drain := rfl
@[simp] theorem setStore_descale (r : Store) (b : Block) : (setStore r b).descale = b.descale := rfl
@[simp] theorem setStore_run (r : Store) (b : Block) : (setStore r b).run = b.run := rfl
@[simp] theorem setStore_runCounter (r : Store) (b : Block) :
    (setStore r b).runCounter = b.runCounter := rfl
@[simp] theorem setStore_reports (r : Store) (b : Block) : (setStore r b).reports = b.reports := rfl
@[simp] theorem setStore_attn (r : Store) (b : Block) : (setStore r b).attn = b.attn := rfl
@[simp] theorem setStore_sensors (r : Store) (b : Block) : (setStore r b).sensors = b.sensors := rfl
@[simp] theorem setStore_switches (r : Store) (b : Block) :
    (setStore r b).switches = b.switches := rfl
@[simp] theorem setStore_store (r : Store) (b : Block) :
    (setStore r b).store = r := rfl
@[simp] theorem setStore_link (r : Store) (b : Block) : (setStore r b).link = b.link := rfl
@[simp] theorem setStore_silence (r : Store) (b : Block) : (setStore r b).silence = b.silence := rfl

/-! ### setLink -/

@[simp] theorem setLink_clock (l : Link) (b : Block) : (setLink l b).clock = b.clock := rfl
@[simp] theorem setLink_settings (l : Link) (b : Block) : (setLink l b).settings = b.settings := rfl
@[simp] theorem setLink_straps (l : Link) (b : Block) : (setLink l b).straps = b.straps := rfl
@[simp] theorem setLink_pins (l : Link) (b : Block) : (setLink l b).pins = b.pins := rfl
@[simp] theorem setLink_life (l : Link) (b : Block) : (setLink l b).life = b.life := rfl
@[simp] theorem setLink_climate (l : Link) (b : Block) : (setLink l b).climate = b.climate := rfl
@[simp] theorem setLink_share (l : Link) (b : Block) : (setLink l b).share = b.share := rfl
@[simp] theorem setLink_gen (l : Link) (b : Block) : (setLink l b).gen = b.gen := rfl
@[simp] theorem setLink_fill (l : Link) (b : Block) : (setLink l b).fill = b.fill := rfl
@[simp] theorem setLink_drain (l : Link) (b : Block) : (setLink l b).drain = b.drain := rfl
@[simp] theorem setLink_descale (l : Link) (b : Block) : (setLink l b).descale = b.descale := rfl
@[simp] theorem setLink_run (l : Link) (b : Block) : (setLink l b).run = b.run := rfl
@[simp] theorem setLink_runCounter (l : Link) (b : Block) :
    (setLink l b).runCounter = b.runCounter := rfl
@[simp] theorem setLink_reports (l : Link) (b : Block) : (setLink l b).reports = b.reports := rfl
@[simp] theorem setLink_attn (l : Link) (b : Block) : (setLink l b).attn = b.attn := rfl
@[simp] theorem setLink_sensors (l : Link) (b : Block) : (setLink l b).sensors = b.sensors := rfl
@[simp] theorem setLink_switches (l : Link) (b : Block) : (setLink l b).switches = b.switches := rfl
@[simp] theorem setLink_store (l : Link) (b : Block) : (setLink l b).store = b.store := rfl
@[simp] theorem setLink_link (l : Link) (b : Block) :
    (setLink l b).link = l := rfl
@[simp] theorem setLink_silence (l : Link) (b : Block) : (setLink l b).silence = b.silence := rfl

/-! ### setSilence -/

@[simp] theorem setSilence_clock (q : Silence) (b : Block) : (setSilence q b).clock = b.clock := rfl
@[simp] theorem setSilence_settings (q : Silence) (b : Block) :
    (setSilence q b).settings = b.settings := rfl
@[simp] theorem setSilence_straps (q : Silence) (b : Block) :
    (setSilence q b).straps = b.straps := rfl
@[simp] theorem setSilence_pins (q : Silence) (b : Block) : (setSilence q b).pins = b.pins := rfl
@[simp] theorem setSilence_life (q : Silence) (b : Block) : (setSilence q b).life = b.life := rfl
@[simp] theorem setSilence_climate (q : Silence) (b : Block) :
    (setSilence q b).climate = b.climate := rfl
@[simp] theorem setSilence_share (q : Silence) (b : Block) : (setSilence q b).share = b.share := rfl
@[simp] theorem setSilence_gen (q : Silence) (b : Block) : (setSilence q b).gen = b.gen := rfl
@[simp] theorem setSilence_fill (q : Silence) (b : Block) : (setSilence q b).fill = b.fill := rfl
@[simp] theorem setSilence_drain (q : Silence) (b : Block) : (setSilence q b).drain = b.drain := rfl
@[simp] theorem setSilence_descale (q : Silence) (b : Block) :
    (setSilence q b).descale = b.descale := rfl
@[simp] theorem setSilence_run (q : Silence) (b : Block) : (setSilence q b).run = b.run := rfl
@[simp] theorem setSilence_runCounter (q : Silence) (b : Block) :
    (setSilence q b).runCounter = b.runCounter := rfl
@[simp] theorem setSilence_reports (q : Silence) (b : Block) :
    (setSilence q b).reports = b.reports := rfl
@[simp] theorem setSilence_attn (q : Silence) (b : Block) : (setSilence q b).attn = b.attn := rfl
@[simp] theorem setSilence_sensors (q : Silence) (b : Block) :
    (setSilence q b).sensors = b.sensors := rfl
@[simp] theorem setSilence_switches (q : Silence) (b : Block) :
    (setSilence q b).switches = b.switches := rfl
@[simp] theorem setSilence_store (q : Silence) (b : Block) : (setSilence q b).store = b.store := rfl
@[simp] theorem setSilence_link (q : Silence) (b : Block) : (setSilence q b).link = b.link := rfl
@[simp] theorem setSilence_silence (q : Silence) (b : Block) :
    (setSilence q b).silence = q := rfl

/-! ### setKept -/

@[simp] theorem setKept_clock (k : DescaleRec) (b : Block) : (setKept k b).clock = b.clock := rfl
@[simp] theorem setKept_settings (k : DescaleRec) (b : Block) :
    (setKept k b).settings = b.settings := rfl
@[simp] theorem setKept_straps (k : DescaleRec) (b : Block) : (setKept k b).straps = b.straps := rfl
@[simp] theorem setKept_pins (k : DescaleRec) (b : Block) : (setKept k b).pins = b.pins := rfl
@[simp] theorem setKept_life (k : DescaleRec) (b : Block) : (setKept k b).life = b.life := rfl
@[simp] theorem setKept_climate (k : DescaleRec) (b : Block) :
    (setKept k b).climate = b.climate := rfl
@[simp] theorem setKept_share (k : DescaleRec) (b : Block) : (setKept k b).share = b.share := rfl
@[simp] theorem setKept_gen (k : DescaleRec) (b : Block) : (setKept k b).gen = b.gen := rfl
@[simp] theorem setKept_fill (k : DescaleRec) (b : Block) : (setKept k b).fill = b.fill := rfl
@[simp] theorem setKept_drain (k : DescaleRec) (b : Block) : (setKept k b).drain = b.drain := rfl
@[simp] theorem setKept_descale (k : DescaleRec) (b : Block) :
    (setKept k b).descale = { b.descale with kept := k } := rfl
@[simp] theorem setKept_run (k : DescaleRec) (b : Block) : (setKept k b).run = b.run := rfl
@[simp] theorem setKept_runCounter (k : DescaleRec) (b : Block) :
    (setKept k b).runCounter = b.runCounter := rfl
@[simp] theorem setKept_reports (k : DescaleRec) (b : Block) :
    (setKept k b).reports = b.reports := rfl
@[simp] theorem setKept_attn (k : DescaleRec) (b : Block) : (setKept k b).attn = b.attn := rfl
@[simp] theorem setKept_sensors (k : DescaleRec) (b : Block) :
    (setKept k b).sensors = b.sensors := rfl
@[simp] theorem setKept_switches (k : DescaleRec) (b : Block) :
    (setKept k b).switches = b.switches := rfl
@[simp] theorem setKept_store (k : DescaleRec) (b : Block) : (setKept k b).store = b.store := rfl
@[simp] theorem setKept_link (k : DescaleRec) (b : Block) : (setKept k b).link = b.link := rfl
@[simp] theorem setKept_silence (k : DescaleRec) (b : Block) :
    (setKept k b).silence = b.silence := rfl

/-! ### setStep -/

@[simp] theorem setStep_clock (f : StepFields) (b : Block) : (setStep f b).clock = b.clock := rfl
@[simp] theorem setStep_settings (f : StepFields) (b : Block) :
    (setStep f b).settings = b.settings := rfl
@[simp] theorem setStep_straps (f : StepFields) (b : Block) : (setStep f b).straps = b.straps := rfl
@[simp] theorem setStep_pins (f : StepFields) (b : Block) : (setStep f b).pins = b.pins := rfl
@[simp] theorem setStep_life (f : StepFields) (b : Block) : (setStep f b).life = b.life := rfl
@[simp] theorem setStep_climate (f : StepFields) (b : Block) :
    (setStep f b).climate = b.climate := rfl
@[simp] theorem setStep_share (f : StepFields) (b : Block) : (setStep f b).share = b.share := rfl
@[simp] theorem setStep_gen (f : StepFields) (b : Block) : (setStep f b).gen = b.gen := rfl
@[simp] theorem setStep_fill (f : StepFields) (b : Block) : (setStep f b).fill = b.fill := rfl
@[simp] theorem setStep_drain (f : StepFields) (b : Block) : (setStep f b).drain = b.drain := rfl
@[simp] theorem setStep_descale (f : StepFields) (b : Block) :
    (setStep f b).descale = b.descale := rfl
@[simp] theorem setStep_run (f : StepFields) (b : Block) :
    (setStep f b).run = { b.run with step := f } := rfl
@[simp] theorem setStep_runCounter (f : StepFields) (b : Block) :
    (setStep f b).runCounter = b.runCounter := rfl
@[simp] theorem setStep_reports (f : StepFields) (b : Block) :
    (setStep f b).reports = b.reports := rfl
@[simp] theorem setStep_attn (f : StepFields) (b : Block) : (setStep f b).attn = b.attn := rfl
@[simp] theorem setStep_sensors (f : StepFields) (b : Block) :
    (setStep f b).sensors = b.sensors := rfl
@[simp] theorem setStep_switches (f : StepFields) (b : Block) :
    (setStep f b).switches = b.switches := rfl
@[simp] theorem setStep_store (f : StepFields) (b : Block) : (setStep f b).store = b.store := rfl
@[simp] theorem setStep_link (f : StepFields) (b : Block) : (setStep f b).link = b.link := rfl
@[simp] theorem setStep_silence (f : StepFields) (b : Block) :
    (setStep f b).silence = b.silence := rfl

/-! ### raiseAttn -/

@[simp] theorem raiseAttn_clock (k : AttnKind) (d : Detail) (b : Block) :
    (raiseAttn k d b).clock = b.clock := rfl
@[simp] theorem raiseAttn_settings (k : AttnKind) (d : Detail) (b : Block) :
    (raiseAttn k d b).settings = b.settings := rfl
@[simp] theorem raiseAttn_straps (k : AttnKind) (d : Detail) (b : Block) :
    (raiseAttn k d b).straps = b.straps := rfl
@[simp] theorem raiseAttn_pins (k : AttnKind) (d : Detail) (b : Block) :
    (raiseAttn k d b).pins = b.pins := rfl
@[simp] theorem raiseAttn_life (k : AttnKind) (d : Detail) (b : Block) :
    (raiseAttn k d b).life = b.life := rfl
@[simp] theorem raiseAttn_climate (k : AttnKind) (d : Detail) (b : Block) :
    (raiseAttn k d b).climate = b.climate := rfl
@[simp] theorem raiseAttn_share (k : AttnKind) (d : Detail) (b : Block) :
    (raiseAttn k d b).share = b.share := rfl
@[simp] theorem raiseAttn_gen (k : AttnKind) (d : Detail) (b : Block) :
    (raiseAttn k d b).gen = b.gen := rfl
@[simp] theorem raiseAttn_fill (k : AttnKind) (d : Detail) (b : Block) :
    (raiseAttn k d b).fill = b.fill := rfl
@[simp] theorem raiseAttn_drain (k : AttnKind) (d : Detail) (b : Block) :
    (raiseAttn k d b).drain = b.drain := rfl
@[simp] theorem raiseAttn_descale (k : AttnKind) (d : Detail) (b : Block) :
    (raiseAttn k d b).descale = b.descale := rfl
@[simp] theorem raiseAttn_run (k : AttnKind) (d : Detail) (b : Block) :
    (raiseAttn k d b).run = b.run := rfl
@[simp] theorem raiseAttn_runCounter (k : AttnKind) (d : Detail) (b : Block) :
    (raiseAttn k d b).runCounter = b.runCounter := rfl
@[simp] theorem raiseAttn_reports (k : AttnKind) (d : Detail) (b : Block) :
    (raiseAttn k d b).reports = b.reports := rfl
@[simp] theorem raiseAttn_attn (k : AttnKind) (d : Detail) (b : Block) :
    (raiseAttn k d b).attn = b.attn.raise k d (raiseTime b) b.life.settling.isSome := rfl
@[simp] theorem raiseAttn_sensors (k : AttnKind) (d : Detail) (b : Block) :
    (raiseAttn k d b).sensors = b.sensors := rfl
@[simp] theorem raiseAttn_switches (k : AttnKind) (d : Detail) (b : Block) :
    (raiseAttn k d b).switches = b.switches := rfl
@[simp] theorem raiseAttn_store (k : AttnKind) (d : Detail) (b : Block) :
    (raiseAttn k d b).store = b.store := rfl
@[simp] theorem raiseAttn_link (k : AttnKind) (d : Detail) (b : Block) :
    (raiseAttn k d b).link = b.link := rfl
@[simp] theorem raiseAttn_silence (k : AttnKind) (d : Detail) (b : Block) :
    (raiseAttn k d b).silence = b.silence := rfl

/-! ### clearAttn -/

@[simp] theorem clearAttn_clock (k : AttnKind) (b : Block) : (clearAttn k b).clock = b.clock := rfl
@[simp] theorem clearAttn_settings (k : AttnKind) (b : Block) :
    (clearAttn k b).settings = b.settings := rfl
@[simp] theorem clearAttn_straps (k : AttnKind) (b : Block) :
    (clearAttn k b).straps = b.straps := rfl
@[simp] theorem clearAttn_pins (k : AttnKind) (b : Block) : (clearAttn k b).pins = b.pins := rfl
@[simp] theorem clearAttn_life (k : AttnKind) (b : Block) : (clearAttn k b).life = b.life := rfl
@[simp] theorem clearAttn_climate (k : AttnKind) (b : Block) :
    (clearAttn k b).climate = b.climate := rfl
@[simp] theorem clearAttn_share (k : AttnKind) (b : Block) : (clearAttn k b).share = b.share := rfl
@[simp] theorem clearAttn_gen (k : AttnKind) (b : Block) : (clearAttn k b).gen = b.gen := rfl
@[simp] theorem clearAttn_fill (k : AttnKind) (b : Block) : (clearAttn k b).fill = b.fill := rfl
@[simp] theorem clearAttn_drain (k : AttnKind) (b : Block) : (clearAttn k b).drain = b.drain := rfl
@[simp] theorem clearAttn_descale (k : AttnKind) (b : Block) :
    (clearAttn k b).descale = b.descale := rfl
@[simp] theorem clearAttn_run (k : AttnKind) (b : Block) : (clearAttn k b).run = b.run := rfl
@[simp] theorem clearAttn_runCounter (k : AttnKind) (b : Block) :
    (clearAttn k b).runCounter = b.runCounter := rfl
@[simp] theorem clearAttn_reports (k : AttnKind) (b : Block) :
    (clearAttn k b).reports = b.reports := rfl
@[simp] theorem clearAttn_attn (k : AttnKind) (b : Block) :
    (clearAttn k b).attn = b.attn.remove k := rfl
@[simp] theorem clearAttn_sensors (k : AttnKind) (b : Block) :
    (clearAttn k b).sensors = b.sensors := rfl
@[simp] theorem clearAttn_switches (k : AttnKind) (b : Block) :
    (clearAttn k b).switches = b.switches := rfl
@[simp] theorem clearAttn_store (k : AttnKind) (b : Block) : (clearAttn k b).store = b.store := rfl
@[simp] theorem clearAttn_link (k : AttnKind) (b : Block) : (clearAttn k b).link = b.link := rfl
@[simp] theorem clearAttn_silence (k : AttnKind) (b : Block) :
    (clearAttn k b).silence = b.silence := rfl

/-! ### clearSource -/

@[simp] theorem clearSource_clock (f : FaultSource) (b : Block) :
    (clearSource f b).clock = b.clock := rfl
@[simp] theorem clearSource_settings (f : FaultSource) (b : Block) :
    (clearSource f b).settings = b.settings := rfl
@[simp] theorem clearSource_straps (f : FaultSource) (b : Block) :
    (clearSource f b).straps = b.straps := rfl
@[simp] theorem clearSource_pins (f : FaultSource) (b : Block) :
    (clearSource f b).pins = b.pins := rfl
@[simp] theorem clearSource_life (f : FaultSource) (b : Block) :
    (clearSource f b).life = b.life := rfl
@[simp] theorem clearSource_climate (f : FaultSource) (b : Block) :
    (clearSource f b).climate = b.climate := rfl
@[simp] theorem clearSource_share (f : FaultSource) (b : Block) :
    (clearSource f b).share = b.share := rfl
@[simp] theorem clearSource_gen (f : FaultSource) (b : Block) : (clearSource f b).gen = b.gen := rfl
@[simp] theorem clearSource_fill (f : FaultSource) (b : Block) :
    (clearSource f b).fill = b.fill := rfl
@[simp] theorem clearSource_drain (f : FaultSource) (b : Block) :
    (clearSource f b).drain = b.drain := rfl
@[simp] theorem clearSource_descale (f : FaultSource) (b : Block) :
    (clearSource f b).descale = b.descale := rfl
@[simp] theorem clearSource_run (f : FaultSource) (b : Block) : (clearSource f b).run = b.run := rfl
@[simp] theorem clearSource_runCounter (f : FaultSource) (b : Block) :
    (clearSource f b).runCounter = b.runCounter := rfl
@[simp] theorem clearSource_reports (f : FaultSource) (b : Block) :
    (clearSource f b).reports = b.reports := rfl
@[simp] theorem clearSource_attn (f : FaultSource) (b : Block) :
    (clearSource f b).attn = b.attn.clearSource f := rfl
@[simp] theorem clearSource_sensors (f : FaultSource) (b : Block) :
    (clearSource f b).sensors = b.sensors := rfl
@[simp] theorem clearSource_switches (f : FaultSource) (b : Block) :
    (clearSource f b).switches = b.switches := rfl
@[simp] theorem clearSource_store (f : FaultSource) (b : Block) :
    (clearSource f b).store = b.store := rfl
@[simp] theorem clearSource_link (f : FaultSource) (b : Block) :
    (clearSource f b).link = b.link := rfl
@[simp] theorem clearSource_silence (f : FaultSource) (b : Block) :
    (clearSource f b).silence = b.silence := rfl

/-! ### queueWrite -/

@[simp] theorem queueWrite_clock (w : Write) (b : Block) : (queueWrite w b).clock = b.clock := rfl
@[simp] theorem queueWrite_settings (w : Write) (b : Block) :
    (queueWrite w b).settings = b.settings := rfl
@[simp] theorem queueWrite_straps (w : Write) (b : Block) :
    (queueWrite w b).straps = b.straps := rfl
@[simp] theorem queueWrite_pins (w : Write) (b : Block) : (queueWrite w b).pins = b.pins := rfl
@[simp] theorem queueWrite_life (w : Write) (b : Block) : (queueWrite w b).life = b.life := rfl
@[simp] theorem queueWrite_climate (w : Write) (b : Block) :
    (queueWrite w b).climate = b.climate := rfl
@[simp] theorem queueWrite_share (w : Write) (b : Block) : (queueWrite w b).share = b.share := rfl
@[simp] theorem queueWrite_gen (w : Write) (b : Block) : (queueWrite w b).gen = b.gen := rfl
@[simp] theorem queueWrite_fill (w : Write) (b : Block) : (queueWrite w b).fill = b.fill := rfl
@[simp] theorem queueWrite_drain (w : Write) (b : Block) : (queueWrite w b).drain = b.drain := rfl
@[simp] theorem queueWrite_descale (w : Write) (b : Block) :
    (queueWrite w b).descale = b.descale := rfl
@[simp] theorem queueWrite_run (w : Write) (b : Block) : (queueWrite w b).run = b.run := rfl
@[simp] theorem queueWrite_runCounter (w : Write) (b : Block) :
    (queueWrite w b).runCounter = b.runCounter := rfl
@[simp] theorem queueWrite_reports (w : Write) (b : Block) :
    (queueWrite w b).reports = b.reports := rfl
@[simp] theorem queueWrite_attn (w : Write) (b : Block) : (queueWrite w b).attn = b.attn := rfl
@[simp] theorem queueWrite_sensors (w : Write) (b : Block) :
    (queueWrite w b).sensors = b.sensors := rfl
@[simp] theorem queueWrite_switches (w : Write) (b : Block) :
    (queueWrite w b).switches = b.switches := rfl
@[simp] theorem queueWrite_store (w : Write) (b : Block) :
    (queueWrite w b).store = { b.store with queue := enqueue w b.store.queue } := rfl
@[simp] theorem queueWrite_link (w : Write) (b : Block) : (queueWrite w b).link = b.link := rfl
@[simp] theorem queueWrite_silence (w : Write) (b : Block) :
    (queueWrite w b).silence = b.silence := rfl

/-! ### writeGenRow -/

@[simp] theorem writeGenRow_clock (w p : Nat) (b : Block) :
    (writeGenRow w p b).clock = b.clock := rfl
@[simp] theorem writeGenRow_settings (w p : Nat) (b : Block) :
    (writeGenRow w p b).settings = b.settings := rfl
@[simp] theorem writeGenRow_straps (w p : Nat) (b : Block) :
    (writeGenRow w p b).straps = b.straps := rfl
@[simp] theorem writeGenRow_pins (w p : Nat) (b : Block) : (writeGenRow w p b).pins = b.pins := rfl
@[simp] theorem writeGenRow_life (w p : Nat) (b : Block) : (writeGenRow w p b).life = b.life := rfl
@[simp] theorem writeGenRow_climate (w p : Nat) (b : Block) :
    (writeGenRow w p b).climate = b.climate := rfl
@[simp] theorem writeGenRow_share (w p : Nat) (b : Block) :
    (writeGenRow w p b).share = { b.share with requests := { b.share.requests with gen := ⟨w, p⟩ } } := rfl
@[simp] theorem writeGenRow_gen (w p : Nat) (b : Block) : (writeGenRow w p b).gen = b.gen := rfl
@[simp] theorem writeGenRow_fill (w p : Nat) (b : Block) : (writeGenRow w p b).fill = b.fill := rfl
@[simp] theorem writeGenRow_drain (w p : Nat) (b : Block) :
    (writeGenRow w p b).drain = b.drain := rfl
@[simp] theorem writeGenRow_descale (w p : Nat) (b : Block) :
    (writeGenRow w p b).descale = b.descale := rfl
@[simp] theorem writeGenRow_run (w p : Nat) (b : Block) : (writeGenRow w p b).run = b.run := rfl
@[simp] theorem writeGenRow_runCounter (w p : Nat) (b : Block) :
    (writeGenRow w p b).runCounter = b.runCounter := rfl
@[simp] theorem writeGenRow_reports (w p : Nat) (b : Block) :
    (writeGenRow w p b).reports = b.reports := rfl
@[simp] theorem writeGenRow_attn (w p : Nat) (b : Block) : (writeGenRow w p b).attn = b.attn := rfl
@[simp] theorem writeGenRow_sensors (w p : Nat) (b : Block) :
    (writeGenRow w p b).sensors = b.sensors := rfl
@[simp] theorem writeGenRow_switches (w p : Nat) (b : Block) :
    (writeGenRow w p b).switches = b.switches := rfl
@[simp] theorem writeGenRow_store (w p : Nat) (b : Block) :
    (writeGenRow w p b).store = b.store := rfl
@[simp] theorem writeGenRow_link (w p : Nat) (b : Block) : (writeGenRow w p b).link = b.link := rfl
@[simp] theorem writeGenRow_silence (w p : Nat) (b : Block) :
    (writeGenRow w p b).silence = b.silence := rfl

/-! ### writeElementRows -/

@[simp] theorem writeElementRows_clock (r t o p : Nat) (b : Block) :
    (writeElementRows r t o p b).clock = b.clock := rfl
@[simp] theorem writeElementRows_settings (r t o p : Nat) (b : Block) :
    (writeElementRows r t o p b).settings = b.settings := rfl
@[simp] theorem writeElementRows_straps (r t o p : Nat) (b : Block) :
    (writeElementRows r t o p b).straps = b.straps := rfl
@[simp] theorem writeElementRows_pins (r t o p : Nat) (b : Block) :
    (writeElementRows r t o p b).pins = b.pins := rfl
@[simp] theorem writeElementRows_life (r t o p : Nat) (b : Block) :
    (writeElementRows r t o p b).life = b.life := rfl
@[simp] theorem writeElementRows_climate (r t o p : Nat) (b : Block) :
    (writeElementRows r t o p b).climate = b.climate := rfl
@[simp] theorem writeElementRows_share (r t o p : Nat) (b : Block) :
    (writeElementRows r t o p b).share = { b.share with requests := { b.share.requests with ring := ⟨r, p⟩, top := ⟨t, p⟩, bottom := ⟨o, p⟩ } } := rfl
@[simp] theorem writeElementRows_gen (r t o p : Nat) (b : Block) :
    (writeElementRows r t o p b).gen = b.gen := rfl
@[simp] theorem writeElementRows_fill (r t o p : Nat) (b : Block) :
    (writeElementRows r t o p b).fill = b.fill := rfl
@[simp] theorem writeElementRows_drain (r t o p : Nat) (b : Block) :
    (writeElementRows r t o p b).drain = b.drain := rfl
@[simp] theorem writeElementRows_descale (r t o p : Nat) (b : Block) :
    (writeElementRows r t o p b).descale = b.descale := rfl
@[simp] theorem writeElementRows_run (r t o p : Nat) (b : Block) :
    (writeElementRows r t o p b).run = b.run := rfl
@[simp] theorem writeElementRows_runCounter (r t o p : Nat) (b : Block) :
    (writeElementRows r t o p b).runCounter = b.runCounter := rfl
@[simp] theorem writeElementRows_reports (r t o p : Nat) (b : Block) :
    (writeElementRows r t o p b).reports = b.reports := rfl
@[simp] theorem writeElementRows_attn (r t o p : Nat) (b : Block) :
    (writeElementRows r t o p b).attn = b.attn := rfl
@[simp] theorem writeElementRows_sensors (r t o p : Nat) (b : Block) :
    (writeElementRows r t o p b).sensors = b.sensors := rfl
@[simp] theorem writeElementRows_switches (r t o p : Nat) (b : Block) :
    (writeElementRows r t o p b).switches = b.switches := rfl
@[simp] theorem writeElementRows_store (r t o p : Nat) (b : Block) :
    (writeElementRows r t o p b).store = b.store := rfl
@[simp] theorem writeElementRows_link (r t o p : Nat) (b : Block) :
    (writeElementRows r t o p b).link = b.link := rfl
@[simp] theorem writeElementRows_silence (r t o p : Nat) (b : Block) :
    (writeElementRows r t o p b).silence = b.silence := rfl

/-! ### pushReport -/

@[simp] theorem pushReport_clock (r : Report) (b : Block) : (pushReport r b).clock = b.clock := rfl
@[simp] theorem pushReport_settings (r : Report) (b : Block) :
    (pushReport r b).settings = b.settings := rfl
@[simp] theorem pushReport_straps (r : Report) (b : Block) :
    (pushReport r b).straps = b.straps := rfl
@[simp] theorem pushReport_pins (r : Report) (b : Block) : (pushReport r b).pins = b.pins := rfl
@[simp] theorem pushReport_life (r : Report) (b : Block) : (pushReport r b).life = b.life := rfl
@[simp] theorem pushReport_climate (r : Report) (b : Block) :
    (pushReport r b).climate = b.climate := rfl
@[simp] theorem pushReport_share (r : Report) (b : Block) : (pushReport r b).share = b.share := rfl
@[simp] theorem pushReport_gen (r : Report) (b : Block) : (pushReport r b).gen = b.gen := rfl
@[simp] theorem pushReport_fill (r : Report) (b : Block) : (pushReport r b).fill = b.fill := rfl
@[simp] theorem pushReport_drain (r : Report) (b : Block) : (pushReport r b).drain = b.drain := rfl
@[simp] theorem pushReport_descale (r : Report) (b : Block) :
    (pushReport r b).descale = b.descale := rfl
@[simp] theorem pushReport_run (r : Report) (b : Block) : (pushReport r b).run = b.run := rfl
@[simp] theorem pushReport_runCounter (r : Report) (b : Block) :
    (pushReport r b).runCounter = b.runCounter := rfl
@[simp] theorem pushReport_reports (r : Report) (b : Block) :
    (pushReport r b).reports = b.reports.push r := rfl
@[simp] theorem pushReport_attn (r : Report) (b : Block) : (pushReport r b).attn = b.attn := rfl
@[simp] theorem pushReport_sensors (r : Report) (b : Block) :
    (pushReport r b).sensors = b.sensors := rfl
@[simp] theorem pushReport_switches (r : Report) (b : Block) :
    (pushReport r b).switches = b.switches := rfl
@[simp] theorem pushReport_store (r : Report) (b : Block) : (pushReport r b).store = b.store := rfl
@[simp] theorem pushReport_link (r : Report) (b : Block) : (pushReport r b).link = b.link := rfl
@[simp] theorem pushReport_silence (r : Report) (b : Block) :
    (pushReport r b).silence = b.silence := rfl

/-! ### restartSilence -/

@[simp] theorem restartSilence_clock (b : Block) : (restartSilence b).clock = b.clock := rfl
@[simp] theorem restartSilence_settings (b : Block) :
    (restartSilence b).settings = b.settings := rfl
@[simp] theorem restartSilence_straps (b : Block) : (restartSilence b).straps = b.straps := rfl
@[simp] theorem restartSilence_pins (b : Block) : (restartSilence b).pins = b.pins := rfl
@[simp] theorem restartSilence_life (b : Block) : (restartSilence b).life = b.life := rfl
@[simp] theorem restartSilence_climate (b : Block) : (restartSilence b).climate = b.climate := rfl
@[simp] theorem restartSilence_share (b : Block) : (restartSilence b).share = b.share := rfl
@[simp] theorem restartSilence_gen (b : Block) : (restartSilence b).gen = b.gen := rfl
@[simp] theorem restartSilence_fill (b : Block) : (restartSilence b).fill = b.fill := rfl
@[simp] theorem restartSilence_drain (b : Block) : (restartSilence b).drain = b.drain := rfl
@[simp] theorem restartSilence_descale (b : Block) : (restartSilence b).descale = b.descale := rfl
@[simp] theorem restartSilence_run (b : Block) : (restartSilence b).run = b.run := rfl
@[simp] theorem restartSilence_runCounter (b : Block) :
    (restartSilence b).runCounter = b.runCounter := rfl
@[simp] theorem restartSilence_reports (b : Block) : (restartSilence b).reports = b.reports := rfl
@[simp] theorem restartSilence_attn (b : Block) : (restartSilence b).attn = b.attn := rfl
@[simp] theorem restartSilence_sensors (b : Block) : (restartSilence b).sensors = b.sensors := rfl
@[simp] theorem restartSilence_switches (b : Block) :
    (restartSilence b).switches = b.switches := rfl
@[simp] theorem restartSilence_store (b : Block) : (restartSilence b).store = b.store := rfl
@[simp] theorem restartSilence_link (b : Block) : (restartSilence b).link = b.link := rfl
@[simp] theorem restartSilence_silence (b : Block) :
    (restartSilence b).silence = { running := silenceCondition b, ms := 0, mark := false } := rfl

/-! ### setInterlock -/

@[simp] theorem setInterlock_clock (i : Interlock) (b : Block) :
    (setInterlock i b).clock = b.clock := rfl
@[simp] theorem setInterlock_settings (i : Interlock) (b : Block) :
    (setInterlock i b).settings = b.settings := rfl
@[simp] theorem setInterlock_straps (i : Interlock) (b : Block) :
    (setInterlock i b).straps = b.straps := rfl
@[simp] theorem setInterlock_pins (i : Interlock) (b : Block) :
    (setInterlock i b).pins = b.pins := rfl
@[simp] theorem setInterlock_life (i : Interlock) (b : Block) :
    (setInterlock i b).life = b.life := rfl
@[simp] theorem setInterlock_climate (i : Interlock) (b : Block) :
    (setInterlock i b).climate = b.climate := rfl
@[simp] theorem setInterlock_loads (i : Interlock) (b : Block) :
    (setInterlock i b).share.loads =
      b.share.loads.mapWith (fun l o => if i.covers l then o.lock i else o) := rfl
@[simp] theorem setInterlock_requests (i : Interlock) (b : Block) :
    (setInterlock i b).share.requests = b.share.requests := rfl
@[simp] theorem setInterlock_grants (i : Interlock) (b : Block) :
    (setInterlock i b).share.grants = b.share.grants := rfl
@[simp] theorem setInterlock_fixed (i : Interlock) (b : Block) :
    (setInterlock i b).share.fixed = b.share.fixed := rfl
@[simp] theorem setInterlock_windowTimer (i : Interlock) (b : Block) :
    (setInterlock i b).share.windowTimer = b.share.windowTimer := rfl
@[simp] theorem setInterlock_gen (i : Interlock) (b : Block) : (setInterlock i b).gen = b.gen := rfl
@[simp] theorem setInterlock_fill (i : Interlock) (b : Block) :
    (setInterlock i b).fill = b.fill := rfl
@[simp] theorem setInterlock_drain (i : Interlock) (b : Block) :
    (setInterlock i b).drain = b.drain := rfl
@[simp] theorem setInterlock_descale (i : Interlock) (b : Block) :
    (setInterlock i b).descale = b.descale := rfl
@[simp] theorem setInterlock_run (i : Interlock) (b : Block) : (setInterlock i b).run = b.run := rfl
@[simp] theorem setInterlock_runCounter (i : Interlock) (b : Block) :
    (setInterlock i b).runCounter = b.runCounter := rfl
@[simp] theorem setInterlock_reports (i : Interlock) (b : Block) :
    (setInterlock i b).reports = b.reports := rfl
@[simp] theorem setInterlock_attn (i : Interlock) (b : Block) :
    (setInterlock i b).attn = b.attn := rfl
@[simp] theorem setInterlock_sensors (i : Interlock) (b : Block) :
    (setInterlock i b).sensors = b.sensors := rfl
@[simp] theorem setInterlock_switches (i : Interlock) (b : Block) :
    (setInterlock i b).switches = b.switches := rfl
@[simp] theorem setInterlock_store (i : Interlock) (b : Block) :
    (setInterlock i b).store = b.store := rfl
@[simp] theorem setInterlock_link (i : Interlock) (b : Block) :
    (setInterlock i b).link = b.link := rfl
@[simp] theorem setInterlock_silence (i : Interlock) (b : Block) :
    (setInterlock i b).silence = b.silence := rfl

/-! ### clearInterlock -/

@[simp] theorem clearInterlock_clock (i : Interlock) (b : Block) :
    (clearInterlock i b).clock = b.clock := rfl
@[simp] theorem clearInterlock_settings (i : Interlock) (b : Block) :
    (clearInterlock i b).settings = b.settings := rfl
@[simp] theorem clearInterlock_straps (i : Interlock) (b : Block) :
    (clearInterlock i b).straps = b.straps := rfl
@[simp] theorem clearInterlock_pins (i : Interlock) (b : Block) :
    (clearInterlock i b).pins = b.pins := rfl
@[simp] theorem clearInterlock_life (i : Interlock) (b : Block) :
    (clearInterlock i b).life = b.life := rfl
@[simp] theorem clearInterlock_climate (i : Interlock) (b : Block) :
    (clearInterlock i b).climate = b.climate := rfl
@[simp] theorem clearInterlock_loads (i : Interlock) (b : Block) :
    (clearInterlock i b).share.loads =
      b.share.loads.mapWith (fun l o => if i.covers l then o.unlock i else o) := rfl
@[simp] theorem clearInterlock_requests (i : Interlock) (b : Block) :
    (clearInterlock i b).share.requests = b.share.requests := rfl
@[simp] theorem clearInterlock_grants (i : Interlock) (b : Block) :
    (clearInterlock i b).share.grants = b.share.grants := rfl
@[simp] theorem clearInterlock_fixed (i : Interlock) (b : Block) :
    (clearInterlock i b).share.fixed = b.share.fixed := rfl
@[simp] theorem clearInterlock_windowTimer (i : Interlock) (b : Block) :
    (clearInterlock i b).share.windowTimer = b.share.windowTimer := rfl
@[simp] theorem clearInterlock_gen (i : Interlock) (b : Block) :
    (clearInterlock i b).gen = b.gen := rfl
@[simp] theorem clearInterlock_fill (i : Interlock) (b : Block) :
    (clearInterlock i b).fill = b.fill := rfl
@[simp] theorem clearInterlock_drain (i : Interlock) (b : Block) :
    (clearInterlock i b).drain = b.drain := rfl
@[simp] theorem clearInterlock_descale (i : Interlock) (b : Block) :
    (clearInterlock i b).descale = b.descale := rfl
@[simp] theorem clearInterlock_run (i : Interlock) (b : Block) :
    (clearInterlock i b).run = b.run := rfl
@[simp] theorem clearInterlock_runCounter (i : Interlock) (b : Block) :
    (clearInterlock i b).runCounter = b.runCounter := rfl
@[simp] theorem clearInterlock_reports (i : Interlock) (b : Block) :
    (clearInterlock i b).reports = b.reports := rfl
@[simp] theorem clearInterlock_attn (i : Interlock) (b : Block) :
    (clearInterlock i b).attn = b.attn := rfl
@[simp] theorem clearInterlock_sensors (i : Interlock) (b : Block) :
    (clearInterlock i b).sensors = b.sensors := rfl
@[simp] theorem clearInterlock_switches (i : Interlock) (b : Block) :
    (clearInterlock i b).switches = b.switches := rfl
@[simp] theorem clearInterlock_store (i : Interlock) (b : Block) :
    (clearInterlock i b).store = b.store := rfl
@[simp] theorem clearInterlock_link (i : Interlock) (b : Block) :
    (clearInterlock i b).link = b.link := rfl
@[simp] theorem clearInterlock_silence (i : Interlock) (b : Block) :
    (clearInterlock i b).silence = b.silence := rfl

end Sys2Proof.Machine
end

