-- ==== Sys2Proof/Laws/Closed.lean ====
section
/-! SUPPORT. What the shared operations of the blocks can do, said once: each is a chain of the updates
that Closed lists, so a property that those updates keep is kept by every operation. -/

namespace Sys2Proof.Machine

/-- A property of the part that every primitive update of the blocks keeps: the climate record (but for
the overtemperature latch), the descaling block, the run, the generator record (but for its level and
its dry-fire latch), the request rows, the attention list, the write queue, the channels by claim,
release and end, and the report queue. -/
structure Closed (P : Block → Prop) : Prop where
  climate : ∀ (c : Climate) (b : Block), c.overtemp = b.climate.overtemp → P b →
    P (setClimate c b)
  descale : ∀ (d : Descale) (b : Block), P b → P (setDescale d b)
  run : ∀ (r : Run) (b : Block), P b → P (setRun r b)
  gen : ∀ (g : Generator) (b : Block), g.level = b.gen.level → g.dryFire = b.gen.dryFire → P b →
    P (setGen g b)
  genRow : ∀ (w p : Nat) (b : Block), P b → P (writeGenRow w p b)
  elementRows : ∀ (r t o p : Nat) (b : Block), P b → P (writeElementRows r t o p b)
  raised : ∀ (k : AttnKind) (d : Detail) (b : Block), P b → P (raiseAttn k d b)
  cleared : ∀ (k : AttnKind) (b : Block), P b → P (clearAttn k b)
  sourceCleared : ∀ (f : FaultSource) (b : Block), P b → P (clearSource f b)
  queued : ∀ (w : Write) (b : Block), w.record ≠ .startNote → P b → P (queueWrite w b)
  claimed : ∀ (k : Claim) (b c : Block), claim k b = some c → P b → P c
  released : ∀ (c : Channel) (o : Owner) (b : Block), P b → P (release c o b)
  ended : ∀ (c : Channel) (r : EndReason) (b : Block), P b → P (endTransfer c r b)
  pushed : ∀ (r : Report) (b : Block), P b → P (pushReport r b)

variable {P : Block → Prop} (hP : Closed P)

/-- A choice between two parts that both have the property. -/
theorem Closed.ite {c : Prop} {i : Decidable c} {a b : Block} (ha : P a) (hb : P b) :
    P (if c then a else b) := by split <;> assumption

/-- An optional part that has the property where it is present. -/
theorem Closed.getD {o : Option Block} {b : Block} (hb : P b) (ho : ∀ c, o = some c → P c) :
    P (o.getD b) := by cases o with
  | none => exact hb
  | some c => exact ho c rfl

include hP


/-! ### Ops -/

theorem raiseSource_closed (f : FaultSource) {b : Block} (hb : P b) :
    P (raiseSource f b) := by
  unfold raiseSource
  repeat' first
    | with_reducible exact hb
    | with_reducible apply hP.raised

theorem followCondition_closed (k : AttnKind) (holds : Bool) {b : Block} (hb : P b) :
    P (followCondition k holds b) := by
  unfold followCondition
  repeat' first
    | with_reducible exact hb
    | with_reducible refine Closed.ite ?_ ?_
    | with_reducible apply hP.raised
    | with_reducible apply hP.cleared

theorem queueSettings_closed {b : Block} (hb : P b) :
    P (queueSettings b) := by
  unfold queueSettings
  repeat' first
    | with_reducible exact hb
    | with_reducible refine hP.queued _ _ (by simp [Write.record]) ?_

theorem queueScale_closed {b : Block} (hb : P b) :
    P (queueScale b) := by
  unfold queueScale
  repeat' first
    | with_reducible exact hb
    | with_reducible refine hP.queued _ _ (by simp [Write.record]) ?_


/-! ### Generator -/

theorem refreshGenRow_closed {b : Block} (hb : P b) :
    P (refreshGenRow b) := by
  unfold refreshGenRow
  repeat' first
    | with_reducible exact hb
    | with_reducible apply hP.genRow
    | split
    | rfl

theorem enterGen_closed (st : GenState) {b : Block} (hb : P b) :
    P (enterGen st b) := by
  unfold enterGen; extract_lets
  repeat' first
    | with_reducible exact hb
    | with_reducible apply refreshGenRow_closed hP
    | with_reducible refine hP.gen _ _ ?_ ?_ ?_
    | rfl

theorem handOver_closed (demand : Nat) (prio : Option Nat) {b : Block} (hb : P b) :
    P (handOver demand prio b) := by
  unfold handOver; try extract_lets
  repeat' first
    | with_reducible exact hb
    | with_reducible refine hP.gen _ _ ?_ ?_ ?_
    | with_reducible apply refreshGenRow_closed hP
    | (split <;> try extract_lets)
    | rfl

theorem followScale_closed {b : Block} (hb : P b) :
    P (followScale b) := by
  unfold followScale
  repeat' first
    | with_reducible exact hb
    | with_reducible apply followCondition_closed hP

theorem accountFill_closed {b : Block} (hb : P b) :
    P (accountFill b) := by
  unfold accountFill; extract_lets
  repeat' first
    | with_reducible exact hb
    | with_reducible apply followScale_closed hP
    | with_reducible apply queueScale_closed hP
    | with_reducible refine hP.gen _ _ ?_ ?_ ?_
    | rfl

theorem settleFill_closed {b : Block} (hb : P b) :
    P (settleFill b) := by
  unfold settleFill; extract_lets
  repeat' first
    | with_reducible exact hb
    | with_reducible refine Closed.ite ?_ ?_
    | with_reducible apply accountFill_closed hP
    | with_reducible apply hP.released
    | with_reducible refine hP.gen _ _ ?_ ?_ ?_
    | rfl

theorem stopFill_closed {b : Block} (hb : P b) :
    P (stopFill b) := by
  unfold stopFill
  repeat' first
    | with_reducible exact hb
    | with_reducible refine Closed.ite ?_ ?_
    | with_reducible apply settleFill_closed hP
    | with_reducible apply hP.ended

theorem raiseOption_closed (k : Option AttnKind) {b : Block} (hb : P b) :
    P (raiseOption k b) := by
  unfold raiseOption
  repeat' first
    | with_reducible exact hb
    | with_reducible apply hP.raised
    | split

theorem genFillEnd_closed (reason : EndReason) {b : Block} (hb : P b) :
    P (genFillEnd reason b) := by
  unfold genFillEnd; try extract_lets
  repeat' first
    | with_reducible exact hb
    | with_reducible refine Closed.ite ?_ ?_
    | with_reducible apply settleFill_closed hP
    | with_reducible apply raiseOption_closed hP
    | with_reducible apply enterGen_closed hP
    | (split <;> try extract_lets)

theorem genClaim_closed (k : Claim) (p : Purpose) {b c : Block}
    (e : genClaim k p b = some c) (hb : P b) : P c := by
  obtain ⟨x, hx, rfl⟩ := Option.map_eq_some_iff.mp e
  exact hP.gen _ _ rfl rfl (hP.claimed _ _ _ hx hb)

theorem takeImmediateFill_closed {b : Block} (hb : P b) :
    P (takeImmediateFill b) := by
  unfold takeImmediateFill
  repeat' first
    | with_reducible exact hb
    | with_reducible refine Closed.ite ?_ ?_
    | with_reducible apply genFillEnd_closed hP

theorem startFilling_closed {b c : Block}
    (e : startFilling b = some c) (hb : P b) : P c := by
  obtain ⟨x, hx, rfl⟩ := Option.map_eq_some_iff.mp e
  exact takeImmediateFill_closed hP (enterGen_closed hP _ (genClaim_closed hP _ _ hx hb))

theorem claimRefill_closed {b : Block} (hb : P b) :
    P (claimRefill b) := by
  unfold claimRefill
  repeat' first
    | with_reducible exact hb
    | with_reducible refine genClaim_closed hP _ _ (by assumption) ?_
    | with_reducible apply takeImmediateFill_closed hP
    | split

theorem restIdle_closed {b : Block} (hb : P b) :
    P (restIdle b) := by
  unfold restIdle; extract_lets
  repeat' first
    | with_reducible exact hb
    | with_reducible apply enterGen_closed hP
    | with_reducible refine hP.gen _ _ ?_ ?_ ?_
    | rfl

theorem serviceDecision_closed {b : Block} (hb : P b) :
    P (serviceDecision b) := by
  unfold serviceDecision; try extract_lets
  repeat' first
    | with_reducible exact hb
    | with_reducible refine Closed.ite ?_ ?_
    | with_reducible apply restIdle_closed hP
    | with_reducible refine startFilling_closed hP (by assumption) ?_
    | with_reducible refine hP.gen _ _ ?_ ?_ ?_
    | with_reducible apply enterGen_closed hP
    | (split <;> try extract_lets)
    | rfl

theorem enterIdle_closed {b : Block} (hb : P b) :
    P (enterIdle b) := by
  unfold enterIdle; extract_lets
  repeat' first
    | with_reducible exact hb
    | with_reducible refine Closed.ite ?_ ?_
    | with_reducible apply restIdle_closed hP
    | with_reducible apply serviceDecision_closed hP

theorem returnFromCooling_closed {b : Block} (hb : P b) :
    P (returnFromCooling b) := by
  unfold returnFromCooling
  repeat' first
    | with_reducible exact hb
    | with_reducible refine Closed.ite ?_ ?_
    | with_reducible apply enterGen_closed hP
    | with_reducible apply claimRefill_closed hP
    | with_reducible refine startFilling_closed hP (by assumption) ?_
    | split
    | exact Closed.getD hb fun c hc => startFilling_closed hP hc hb

theorem steamWantedSet_closed {b : Block} (hb : P b) :
    P (steamWantedSet b) := by
  unfold steamWantedSet
  repeat' first
    | with_reducible exact hb
    | with_reducible apply serviceDecision_closed hP
    | with_reducible apply returnFromCooling_closed hP
    | split

theorem steamWantedCleared_closed {b : Block} (hb : P b) :
    P (steamWantedCleared b) := by
  unfold steamWantedCleared
  repeat' first
    | with_reducible exact hb
    | with_reducible apply enterGen_closed hP
    | with_reducible apply stopFill_closed hP
    | with_reducible apply restIdle_closed hP
    | split

theorem retryWater_closed {b : Block} (hb : P b) :
    P (retryWater b) := by
  unfold retryWater
  repeat' first
    | with_reducible exact hb
    | with_reducible apply serviceDecision_closed hP
    | split

theorem genLevelChange_closed (new : Level) {b : Block} (hb : P b) :
    P (genLevelChange new b) := by
  unfold genLevelChange; try extract_lets
  repeat' first
    | with_reducible exact hb
    | with_reducible refine Closed.ite ?_ ?_
    | with_reducible apply enterGen_closed hP
    | with_reducible refine hP.gen _ _ ?_ ?_ ?_
    | exact Closed.getD hb fun c hc => startFilling_closed hP hc hb
    | with_reducible apply claimRefill_closed hP
    | with_reducible apply serviceDecision_closed hP
    | (split <;> try extract_lets)
    | rfl

theorem genDrainEnd_closed (reason : EndReason) {b : Block} (hb : P b) :
    P (genDrainEnd reason b) := by
  unfold genDrainEnd; try extract_lets
  repeat' first
    | with_reducible exact hb
    | with_reducible refine Closed.ite ?_ ?_
    | with_reducible apply hP.released
    | with_reducible refine hP.gen _ _ ?_ ?_ ?_
    | with_reducible apply hP.raised
    | with_reducible apply enterGen_closed hP
    | with_reducible apply enterIdle_closed hP
    | (split <;> try extract_lets)
    | rfl

theorem genWallSample_closed (v : Int) {b : Block} (hb : P b) :
    P (genWallSample v b) := by
  unfold genWallSample
  repeat' first
    | with_reducible exact hb
    | with_reducible refine Closed.ite ?_ ?_
    | with_reducible apply enterGen_closed hP
    | with_reducible refine genClaim_closed hP _ _ (by assumption) ?_
    | split

theorem genChannelInvalid_closed {b : Block} (hb : P b) :
    P (genChannelInvalid b) := by
  unfold genChannelInvalid
  repeat' first
    | with_reducible exact hb
    | with_reducible apply enterGen_closed hP
    | with_reducible apply stopFill_closed hP
    | split

theorem genChannelValid_closed {b : Block} (hb : P b) :
    P (genChannelValid b) := by
  unfold genChannelValid
  repeat' first
    | with_reducible exact hb
    | with_reducible refine Closed.ite ?_ ?_
    | with_reducible apply serviceDecision_closed hP
    | split

theorem genReleaseEnded_closed {b : Block} (hb : P b) :
    P (genReleaseEnded b) := by
  unfold genReleaseEnded; extract_lets
  repeat' first
    | with_reducible exact hb
    | with_reducible refine Closed.ite ?_ ?_
    | with_reducible apply settleFill_closed hP
    | with_reducible apply hP.released
    | with_reducible refine hP.gen _ _ ?_ ?_ ?_
    | rfl

theorem endAllTransfers_closed (reason : EndReason) {b : Block} (hb : P b) :
    P (endAllTransfers reason b) := by
  unfold endAllTransfers
  repeat' first
    | with_reducible exact hb
    | with_reducible apply hP.ended


/-! ### Climate -/

theorem openFlap_closed {b : Block} (hb : P b) :
    P (openFlap b) := by
  unfold openFlap; extract_lets
  repeat' first
    | with_reducible exact hb
    | with_reducible refine hP.climate _ _ ?_ ?_
    | rfl

theorem closeFlap_closed {b : Block} (hb : P b) :
    P (closeFlap b) := by
  unfold closeFlap; extract_lets
  repeat' first
    | with_reducible exact hb
    | with_reducible refine hP.climate _ _ ?_ ?_
    | rfl

theorem commandModeFlap_closed {b : Block} (hb : P b) :
    P (commandModeFlap b) := by
  unfold commandModeFlap
  repeat' first
    | with_reducible exact hb
    | with_reducible apply closeFlap_closed hP
    | with_reducible apply openFlap_closed hP
    | split

theorem zeroDemand_closed {b : Block} (hb : P b) :
    P (zeroDemand b) := by
  unfold zeroDemand
  repeat' first
    | with_reducible exact hb
    | with_reducible apply handOver_closed hP
    | with_reducible apply hP.elementRows

theorem suspend_closed {b : Block} (hb : P b) :
    P (suspend b) := by
  unfold suspend; extract_lets
  repeat' first
    | with_reducible exact hb
    | with_reducible apply zeroDemand_closed hP
    | with_reducible refine hP.climate _ _ ?_ ?_
    | rfl

theorem returnActive_closed {b : Block} (hb : P b) :
    P (returnActive b) := by
  unfold returnActive; extract_lets
  repeat' first
    | with_reducible exact hb
    | with_reducible apply commandModeFlap_closed hP
    | with_reducible refine hP.climate _ _ ?_ ?_
    | rfl

theorem putReasons_closed (r : Reasons) {b : Block} (hb : P b) :
    P (putReasons r b) := by
  unfold putReasons; try extract_lets
  repeat' first
    | with_reducible exact hb
    | with_reducible refine Closed.ite ?_ ?_
    | with_reducible refine hP.climate _ _ ?_ ?_
    | with_reducible apply suspend_closed hP
    | with_reducible apply returnActive_closed hP
    | (split <;> try extract_lets)
    | rfl

theorem putDoorReason_closed (v : Bool) {b : Block} (hb : P b) :
    P (putDoorReason v b) := by
  unfold putDoorReason; extract_lets
  repeat' first
    | with_reducible exact hb
    | with_reducible apply putReasons_closed hP

theorem putSensorReason_closed (v : Bool) {b : Block} (hb : P b) :
    P (putSensorReason v b) := by
  unfold putSensorReason; extract_lets
  repeat' first
    | with_reducible exact hb
    | with_reducible apply putReasons_closed hP

theorem putRunHold_closed (v : Bool) {b : Block} (hb : P b) :
    P (putRunHold v b) := by
  unfold putRunHold; extract_lets
  repeat' first
    | with_reducible exact hb
    | with_reducible apply putReasons_closed hP

theorem putSilentReason_closed (v : Bool) {b : Block} (hb : P b) :
    P (putSilentReason v b) := by
  unfold putSilentReason; extract_lets
  repeat' first
    | with_reducible exact hb
    | with_reducible apply putReasons_closed hP

theorem putSteamWanted_closed (v : Bool) {b : Block} (hb : P b) :
    P (putSteamWanted v b) := by
  unfold putSteamWanted; extract_lets
  repeat' first
    | with_reducible exact hb
    | with_reducible refine Closed.ite ?_ ?_
    | with_reducible refine hP.climate _ _ ?_ ?_
    | with_reducible apply steamWantedSet_closed hP
    | with_reducible apply steamWantedCleared_closed hP
    | rfl

theorem leaveOff_closed {b : Block} (hb : P b) :
    P (leaveOff b) := by
  unfold leaveOff; extract_lets
  repeat' first
    | with_reducible exact hb
    | with_reducible refine Closed.ite ?_ ?_
    | with_reducible refine hP.climate _ _ ?_ ?_
    | with_reducible apply commandModeFlap_closed hP
    | with_reducible apply putSteamWanted_closed hP
    | rfl

theorem enterOff_closed {b : Block} (hb : P b) :
    P (enterOff b) := by
  unfold enterOff; extract_lets
  repeat' first
    | with_reducible exact hb
    | with_reducible refine Closed.ite ?_ ?_
    | with_reducible apply zeroDemand_closed hP
    | with_reducible refine hP.climate _ _ ?_ ?_
    | with_reducible apply putSteamWanted_closed hP
    | rfl

theorem enterFault_closed {b : Block} (hb : P b) :
    P (enterFault b) := by
  unfold enterFault; extract_lets
  repeat' first
    | with_reducible exact hb
    | with_reducible apply zeroDemand_closed hP
    | with_reducible refine hP.climate _ _ ?_ ?_
    | with_reducible apply putSteamWanted_closed hP
    | rfl

theorem changeMode_closed (x : ClimateSetting) {b : Block} (hb : P b) :
    P (changeMode x b) := by
  unfold changeMode; extract_lets
  repeat' first
    | with_reducible exact hb
    | with_reducible refine Closed.ite ?_ ?_
    | with_reducible apply zeroDemand_closed hP
    | with_reducible refine hP.climate _ _ ?_ ?_
    | with_reducible apply commandModeFlap_closed hP
    | with_reducible apply putSteamWanted_closed hP
    | rfl

theorem applySetting_closed (x : ClimateSetting) {b : Block} (hb : P b) :
    P (applySetting x b) := by
  unfold applySetting; try extract_lets
  repeat' first
    | with_reducible exact hb
    | with_reducible refine Closed.ite ?_ ?_
    | with_reducible apply leaveOff_closed hP
    | with_reducible refine hP.climate _ _ ?_ ?_
    | with_reducible apply changeMode_closed hP
    | (split <;> try extract_lets)
    | rfl

theorem stepWrite_closed (x : Step) {b : Block} (hb : P b) :
    P (stepWrite x b) := by
  unfold stepWrite
  repeat' first
    | with_reducible exact hb
    | with_reducible apply enterOff_closed hP
    | with_reducible apply applySetting_closed hP
    | split

theorem writeOutput_closed (u : Nat) {b : Block} (hb : P b) :
    P (writeOutput u b) := by
  unfold writeOutput; extract_lets
  repeat' first
    | with_reducible exact hb
    | with_reducible apply hP.elementRows

theorem commandMoistureFlap_closed (mm : Option Int) {b : Block} (hb : P b) :
    P (commandMoistureFlap mm b) := by
  unfold commandMoistureFlap
  repeat' first
    | with_reducible exact hb
    | with_reducible refine Closed.ite ?_ ?_
    | with_reducible apply closeFlap_closed hP
    | with_reducible apply openFlap_closed hP
    | split

theorem controlPeriod_closed (tm : Int) {b : Block} (hb : P b) :
    P (controlPeriod tm b) := by
  unfold controlPeriod; extract_lets
  repeat' first
    | with_reducible exact hb
    | with_reducible refine hP.climate _ _ ?_ ?_
    | with_reducible apply writeOutput_closed hP
    | with_reducible apply handOver_closed hP
    | with_reducible apply commandMoistureFlap_closed hP
    | rfl


/-! ### Descale -/

theorem setKept_closed (k : DescaleRec) {b : Block} (hb : P b) :
    P (setKept k b) := by
  unfold setKept; extract_lets
  repeat' first
    | with_reducible exact hb
    | with_reducible apply hP.descale

theorem setPhase_closed (p : DescalePhase) {b : Block} (hb : P b) :
    P (setPhase p b) := by
  unfold setPhase; extract_lets
  repeat' first
    | with_reducible exact hb
    | with_reducible apply setKept_closed hP

theorem giveHeater_closed (w : Nat) {b : Block} (hb : P b) :
    P (giveHeater w b) := by
  unfold giveHeater; extract_lets
  repeat' first
    | with_reducible exact hb
    | with_reducible refine Closed.ite ?_ ?_
    | with_reducible apply hP.descale
    | with_reducible apply refreshGenRow_closed hP

theorem claimDescaleDrain_closed {b : Block} (hb : P b) :
    P (claimDescaleDrain b) := by
  unfold claimDescaleDrain; try extract_lets
  repeat' first
    | with_reducible exact hb
    | with_reducible refine Closed.ite ?_ ?_
    | with_reducible refine hP.claimed _ _ _ (by assumption) ?_
    | with_reducible apply hP.descale
    | (split <;> try extract_lets)

theorem waterWait_closed (w : WaterWait) {b : Block} (hb : P b) :
    P (waterWait w b) := by
  unfold waterWait; try extract_lets
  repeat' first
    | with_reducible exact hb
    | with_reducible apply hP.raised
    | with_reducible apply hP.descale
    | (split <;> try extract_lets)

theorem enterSoak_closed {b : Block} (hb : P b) :
    P (enterSoak b) := by
  unfold enterSoak; extract_lets
  repeat' first
    | with_reducible exact hb
    | with_reducible apply setPhase_closed hP
    | with_reducible apply hP.descale
    | with_reducible apply giveHeater_closed hP

theorem leaveSoak_closed {b : Block} (hb : P b) :
    P (leaveSoak b) := by
  unfold leaveSoak; extract_lets
  repeat' first
    | with_reducible exact hb
    | with_reducible apply giveHeater_closed hP
    | with_reducible apply hP.descale

theorem enterRinseHold_closed {b : Block} (hb : P b) :
    P (enterRinseHold b) := by
  unfold enterRinseHold; extract_lets
  repeat' first
    | with_reducible exact hb
    | with_reducible apply setPhase_closed hP
    | with_reducible apply hP.descale

theorem descaleFillDone_closed {b : Block} (hb : P b) :
    P (descaleFillDone b) := by
  unfold descaleFillDone
  repeat' first
    | with_reducible exact hb
    | with_reducible apply enterSoak_closed hP
    | with_reducible apply enterRinseHold_closed hP
    | split

theorem releaseDescale_closed (c : Channel) {b : Block} (hb : P b) :
    P (releaseDescale c b) := by
  unfold releaseDescale; extract_lets
  repeat' first
    | with_reducible exact hb
    | with_reducible apply hP.released
    | with_reducible apply hP.descale

theorem descaleFillEnd_closed (reason : EndReason) {b : Block} (hb : P b) :
    P (descaleFillEnd reason b) := by
  unfold descaleFillEnd; try extract_lets
  repeat' first
    | with_reducible exact hb
    | with_reducible refine Closed.ite ?_ ?_
    | with_reducible apply releaseDescale_closed hP
    | with_reducible apply descaleFillDone_closed hP
    | with_reducible apply waterWait_closed hP
    | (split <;> try extract_lets)

theorem claimDescaleFill_closed {b : Block} (hb : P b) :
    P (claimDescaleFill b) := by
  unfold claimDescaleFill; try extract_lets
  repeat' first
    | with_reducible exact hb
    | with_reducible refine Closed.ite ?_ ?_
    | with_reducible refine hP.claimed _ _ _ (by assumption) ?_
    | with_reducible apply hP.descale
    | with_reducible apply descaleFillEnd_closed hP
    | (split <;> try extract_lets)

theorem claimPhaseTransfer_closed {b : Block} (hb : P b) :
    P (claimPhaseTransfer b) := by
  unfold claimPhaseTransfer
  repeat' first
    | with_reducible exact hb
    | with_reducible apply claimDescaleDrain_closed hP
    | with_reducible apply claimDescaleFill_closed hP
    | split

theorem enterAddAgent_closed {b : Block} (hb : P b) :
    P (enterAddAgent b) := by
  unfold enterAddAgent
  repeat' first
    | with_reducible exact hb
    | with_reducible apply hP.raised
    | with_reducible apply setPhase_closed hP

theorem enterRefillClean_closed {b : Block} (hb : P b) :
    P (enterRefillClean b) := by
  unfold enterRefillClean; extract_lets
  repeat' first
    | with_reducible exact hb
    | with_reducible refine Closed.ite ?_ ?_
    | with_reducible apply setPhase_closed hP
    | with_reducible apply hP.raised
    | with_reducible apply hP.descale

theorem enterDrainPhase_closed (p : DescalePhase) {b : Block} (hb : P b) :
    P (enterDrainPhase p b) := by
  unfold enterDrainPhase
  repeat' first
    | with_reducible exact hb
    | with_reducible apply claimDescaleDrain_closed hP
    | with_reducible apply setPhase_closed hP

theorem enterRinseFill_closed {b : Block} (hb : P b) :
    P (enterRinseFill b) := by
  unfold enterRinseFill
  repeat' first
    | with_reducible exact hb
    | with_reducible apply claimDescaleFill_closed hP
    | with_reducible apply setPhase_closed hP

theorem enterAgentFill_closed {b : Block} (hb : P b) :
    P (enterAgentFill b) := by
  unfold enterAgentFill; extract_lets
  repeat' first
    | with_reducible exact hb
    | with_reducible apply setKept_closed hP
    | with_reducible apply claimDescaleFill_closed hP
    | with_reducible apply followScale_closed hP

theorem examineDrainOld_closed {b : Block} (hb : P b) :
    P (examineDrainOld b) := by
  unfold examineDrainOld
  repeat' first
    | with_reducible exact hb
    | with_reducible refine Closed.ite ?_ ?_
    | with_reducible apply enterAddAgent_closed hP
    | with_reducible apply claimDescaleDrain_closed hP

theorem faultIfOvertemp_closed {b : Block} (hb : P b) :
    P (faultIfOvertemp b) := by
  unfold faultIfOvertemp
  repeat' first
    | with_reducible exact hb
    | with_reducible refine Closed.ite ?_ ?_
    | with_reducible apply enterFault_closed hP

theorem endDescale_closed {b : Block} (hb : P b) :
    P (endDescale b) := by
  unfold endDescale; extract_lets
  repeat' first
    | with_reducible exact hb
    | with_reducible refine Closed.ite ?_ ?_
    | with_reducible apply hP.descale
    | with_reducible apply followScale_closed hP
    | with_reducible apply hP.raised
    | with_reducible refine hP.gen _ _ ?_ ?_ ?_
    | with_reducible apply enterIdle_closed hP
    | with_reducible refine hP.climate _ _ ?_ ?_
    | with_reducible apply faultIfOvertemp_closed hP
    | rfl

theorem rinseDone_closed {b : Block} (hb : P b) :
    P (rinseDone b) := by
  unfold rinseDone; extract_lets
  repeat' first
    | with_reducible exact hb
    | with_reducible refine Closed.ite ?_ ?_
    | with_reducible apply setKept_closed hP
    | with_reducible apply endDescale_closed hP
    | with_reducible apply enterRinseFill_closed hP

theorem agentDrained_closed {b : Block} (hb : P b) :
    P (agentDrained b) := by
  unfold agentDrained; extract_lets
  repeat' first
    | with_reducible exact hb
    | with_reducible refine Closed.ite ?_ ?_
    | with_reducible apply setKept_closed hP
    | with_reducible apply enterAddAgent_closed hP
    | with_reducible apply enterRefillClean_closed hP

theorem descaleDrainDone_closed {b : Block} (hb : P b) :
    P (descaleDrainDone b) := by
  unfold descaleDrainDone
  repeat' first
    | with_reducible exact hb
    | with_reducible apply enterAddAgent_closed hP
    | with_reducible apply agentDrained_closed hP
    | with_reducible apply rinseDone_closed hP
    | split

theorem descaleDrainEnd_closed (reason : EndReason) {b : Block} (hb : P b) :
    P (descaleDrainEnd reason b) := by
  unfold descaleDrainEnd; try extract_lets
  repeat' first
    | with_reducible exact hb
    | with_reducible apply releaseDescale_closed hP
    | with_reducible apply descaleDrainDone_closed hP
    | with_reducible apply waterWait_closed hP
    | (split <;> try extract_lets)

theorem genDrainReport_closed (reason : EndReason) {b : Block} (hb : P b) :
    P (genDrainReport reason b) := by
  unfold genDrainReport; extract_lets
  repeat' first
    | with_reducible exact hb
    | with_reducible refine Closed.ite ?_ ?_
    | with_reducible apply genDrainEnd_closed hP
    | with_reducible apply examineDrainOld_closed hP

theorem deliverEnd_closed (c : Channel) (reason : EndReason) {b : Block} (hb : P b) :
    P (deliverEnd c reason b) := by
  unfold deliverEnd
  repeat' first
    | with_reducible exact hb
    | with_reducible apply genFillEnd_closed hP
    | with_reducible apply genDrainReport_closed hP
    | with_reducible apply descaleFillEnd_closed hP
    | with_reducible apply descaleDrainEnd_closed hP
    | split

theorem endAndDeliver_closed (c : Channel) (reason : EndReason) {b : Block} (hb : P b) :
    P (endAndDeliver c reason b) := by
  unfold endAndDeliver
  repeat' first
    | with_reducible exact hb
    | with_reducible refine Closed.ite ?_ ?_
    | with_reducible apply deliverEnd_closed hP
    | with_reducible apply hP.ended

theorem settleEnded_closed {b : Block} (hb : P b) :
    P (settleEnded b) := by
  unfold settleEnded; try extract_lets
  repeat' first
    | with_reducible exact hb
    | with_reducible apply genReleaseEnded_closed hP
    | with_reducible apply releaseDescale_closed hP
    | (split <;> try extract_lets)

theorem soakSample_closed (v : Int) {b : Block} (hb : P b) :
    P (soakSample v b) := by
  unfold soakSample
  repeat' first
    | with_reducible exact hb
    | with_reducible refine Closed.ite ?_ ?_
    | with_reducible apply giveHeater_closed hP

theorem descaleWallSample_closed (v : Int) {b : Block} (hb : P b) :
    P (descaleWallSample v b) := by
  unfold descaleWallSample
  repeat' first
    | with_reducible exact hb
    | with_reducible refine Closed.ite ?_ ?_
    | with_reducible apply soakSample_closed hP
    | with_reducible apply claimPhaseTransfer_closed hP

theorem descaleWallInvalid_closed {b : Block} (hb : P b) :
    P (descaleWallInvalid b) := by
  unfold descaleWallInvalid
  repeat' first
    | with_reducible exact hb
    | with_reducible refine Closed.ite ?_ ?_
    | with_reducible apply giveHeater_closed hP

theorem completeSoak_closed {b : Block} (hb : P b) :
    P (completeSoak b) := by
  unfold completeSoak; extract_lets
  repeat' first
    | with_reducible exact hb
    | with_reducible refine hP.gen _ _ ?_ ?_ ?_
    | with_reducible apply setKept_closed hP
    | with_reducible apply followScale_closed hP
    | with_reducible apply queueScale_closed hP
    | with_reducible apply leaveSoak_closed hP
    | with_reducible apply enterDrainPhase_closed hP
    | rfl

theorem countSoakSecond_closed {b : Block} (hb : P b) :
    P (countSoakSecond b) := by
  unfold countSoakSecond; extract_lets
  repeat' first
    | with_reducible exact hb
    | with_reducible refine Closed.ite ?_ ?_
    | with_reducible apply hP.descale
    | with_reducible apply setKept_closed hP
    | with_reducible apply completeSoak_closed hP

theorem beginDescale_closed {b : Block} (hb : P b) :
    P (beginDescale b) := by
  unfold beginDescale; extract_lets
  repeat' first
    | with_reducible exact hb
    | with_reducible refine Closed.ite ?_ ?_
    | with_reducible apply hP.descale
    | with_reducible refine hP.climate _ _ ?_ ?_
    | with_reducible refine hP.gen _ _ ?_ ?_ ?_
    | with_reducible apply examineDrainOld_closed hP
    | with_reducible apply enterGen_closed hP
    | rfl

theorem setAborted_closed {b : Block} (hb : P b) :
    P (setAborted b) := by
  unfold setAborted; extract_lets
  repeat' first
    | with_reducible exact hb
    | with_reducible apply setKept_closed hP

theorem stopDescale_closed (c : Channel) {b : Block} (hb : P b) :
    P (stopDescale c b) := by
  unfold stopDescale
  repeat' first
    | with_reducible exact hb
    | with_reducible refine Closed.ite ?_ ?_
    | with_reducible apply releaseDescale_closed hP
    | with_reducible apply hP.ended

theorem abortToRefill_closed {b : Block} (hb : P b) :
    P (abortToRefill b) := by
  unfold abortToRefill
  repeat' first
    | with_reducible exact hb
    | with_reducible refine Closed.ite ?_ ?_
    | with_reducible apply setPhase_closed hP
    | with_reducible apply enterRefillClean_closed hP

theorem abortDescale_closed {b : Block} (hb : P b) :
    P (abortDescale b) := by
  unfold abortDescale; try extract_lets
  repeat' first
    | with_reducible exact hb
    | with_reducible refine Closed.ite ?_ ?_
    | with_reducible apply endDescale_closed hP
    | with_reducible apply stopDescale_closed hP
    | with_reducible apply hP.cleared
    | with_reducible apply abortToRefill_closed hP
    | with_reducible apply setAborted_closed hP
    | with_reducible apply enterDrainPhase_closed hP
    | with_reducible apply hP.descale
    | with_reducible apply leaveSoak_closed hP
    | (split <;> try extract_lets)

theorem retryDescale_closed {b : Block} (hb : P b) :
    P (retryDescale b) := by
  unfold retryDescale; try extract_lets
  repeat' first
    | with_reducible exact hb
    | with_reducible apply claimPhaseTransfer_closed hP
    | with_reducible apply hP.descale
    | (split <;> try extract_lets)

theorem retryDescaleEmpty_closed {b : Block} (hb : P b) :
    P (retryDescaleEmpty b) := by
  unfold retryDescaleEmpty
  repeat' first
    | with_reducible exact hb
    | with_reducible refine Closed.ite ?_ ?_
    | with_reducible apply retryDescale_closed hP

theorem moveTankCycle_closed (f : TankCycle → TankCycle) {b : Block} (hb : P b) :
    P (moveTankCycle f b) := by
  unfold moveTankCycle; extract_lets
  repeat' first
    | with_reducible exact hb
    | with_reducible refine Closed.ite ?_ ?_
    | with_reducible apply hP.descale

theorem descaleDryFire_closed {b : Block} (hb : P b) :
    P (descaleDryFire b) := by
  unfold descaleDryFire; extract_lets
  repeat' first
    | with_reducible exact hb
    | with_reducible refine Closed.ite ?_ ?_
    | with_reducible apply settleEnded_closed hP
    | with_reducible apply hP.descale

theorem restartPhase_closed (fresh : Bool) {b : Block} (hb : P b) :
    P (restartPhase fresh b) := by
  unfold restartPhase; try extract_lets
  repeat' first
    | with_reducible exact hb
    | with_reducible refine Closed.ite ?_ ?_
    | with_reducible apply examineDrainOld_closed hP
    | with_reducible apply enterAddAgent_closed hP
    | with_reducible apply enterDrainPhase_closed hP
    | with_reducible apply setKept_closed hP
    | with_reducible apply enterSoak_closed hP
    | with_reducible apply claimDescaleDrain_closed hP
    | with_reducible apply enterRefillClean_closed hP
    | with_reducible apply claimDescaleFill_closed hP
    | with_reducible apply enterRinseHold_closed hP
    | (split <;> try extract_lets)

theorem resumeDescale_closed {b : Block} (hb : P b) :
    P (resumeDescale b) := by
  unfold resumeDescale
  repeat' first
    | with_reducible exact hb
    | with_reducible refine Closed.ite ?_ ?_
    | with_reducible apply enterAddAgent_closed hP
    | with_reducible apply enterRefillClean_closed hP
    | with_reducible apply restartPhase_closed hP
    | split


/-! ### Runner -/

theorem setStep_closed (f : StepFields) {b : Block} (hb : P b) :
    P (setStep f b) := by
  unfold setStep; extract_lets
  repeat' first
    | with_reducible exact hb
    | with_reducible apply hP.run

theorem putHold_closed (h : HoldSet) {b : Block} (hb : P b) :
    P (putHold h b) := by
  unfold putHold; extract_lets
  repeat' first
    | with_reducible exact hb
    | with_reducible refine Closed.ite ?_ ?_
    | with_reducible apply hP.run
    | with_reducible apply putRunHold_closed hP

theorem putHoldDoor_closed (v : Bool) {b : Block} (hb : P b) :
    P (putHoldDoor v b) := by
  unfold putHoldDoor; extract_lets
  repeat' first
    | with_reducible exact hb
    | with_reducible apply putHold_closed hP

theorem putHoldSilent_closed (v : Bool) {b : Block} (hb : P b) :
    P (putHoldSilent v b) := by
  unfold putHoldSilent; extract_lets
  repeat' first
    | with_reducible exact hb
    | with_reducible apply putHold_closed hP

theorem putHoldSensor_closed (v : Bool) {b : Block} (hb : P b) :
    P (putHoldSensor v b) := by
  unfold putHoldSensor; extract_lets
  repeat' first
    | with_reducible exact hb
    | with_reducible apply putHold_closed hP
    | with_reducible apply hP.run

theorem queueCheckpoint_closed {b : Block} (hb : P b) :
    P (queueCheckpoint b) := by
  unfold queueCheckpoint
  repeat' first
    | with_reducible exact hb
    | with_reducible refine hP.queued _ _ (by simp [Write.record]) ?_

theorem enterPrompt_closed (x : Step) {b : Block} (hb : P b) :
    P (enterPrompt x b) := by
  unfold enterPrompt; extract_lets
  repeat' first
    | with_reducible exact hb
    | with_reducible refine Closed.ite ?_ ?_
    | with_reducible apply hP.run
    | with_reducible apply setStep_closed hP
    | with_reducible apply hP.raised

theorem enterActive_closed (x : Step) {b : Block} (hb : P b) :
    P (enterActive x b) := by
  unfold enterActive; extract_lets
  repeat' first
    | with_reducible exact hb
    | with_reducible refine Closed.ite ?_ ?_
    | with_reducible apply hP.run
    | with_reducible apply hP.raised
    | with_reducible apply queueCheckpoint_closed hP

theorem enterAfterPreheat_closed (x : Step) {b : Block} (hb : P b) :
    P (enterAfterPreheat x b) := by
  unfold enterAfterPreheat
  repeat' first
    | with_reducible exact hb
    | with_reducible refine Closed.ite ?_ ?_
    | with_reducible apply enterPrompt_closed hP
    | with_reducible apply enterActive_closed hP

theorem resetStep_closed (first : Bool) {b : Block} (hb : P b) :
    P (resetStep first b) := by
  unfold resetStep; extract_lets
  repeat' first
    | with_reducible exact hb
    | with_reducible refine Closed.ite ?_ ?_
    | with_reducible apply hP.cleared
    | with_reducible apply hP.run

theorem writeStep_closed (x : Step) {b : Block} (hb : P b) :
    P (writeStep x b) := by
  unfold writeStep; extract_lets
  repeat' first
    | with_reducible exact hb
    | with_reducible refine Closed.ite ?_ ?_
    | with_reducible apply putRunHold_closed hP
    | with_reducible apply stepWrite_closed hP

theorem startStep_closed (first : Bool) {b : Block} (hb : P b) :
    P (startStep first b) := by
  unfold startStep; try extract_lets
  repeat' first
    | with_reducible exact hb
    | with_reducible refine Closed.ite ?_ ?_
    | with_reducible apply writeStep_closed hP
    | with_reducible apply resetStep_closed hP
    | with_reducible apply setStep_closed hP
    | with_reducible apply hP.run
    | with_reducible apply enterAfterPreheat_closed hP
    | with_reducible apply queueCheckpoint_closed hP
    | (split <;> try extract_lets)

theorem enterRestored_closed (phase : StepPhase) (active heat : Nat) (x : Step) {b : Block} (hb : P b) :
    P (enterRestored phase active heat x b) := by
  unfold enterRestored; try extract_lets
  repeat' first
    | with_reducible exact hb
    | with_reducible apply hP.run
    | with_reducible apply enterPrompt_closed hP
    | with_reducible apply enterActive_closed hP
    | with_reducible apply setStep_closed hP
    | (split <;> try extract_lets)

theorem restoreStep_closed (phase : StepPhase) (active heat : Nat) {b : Block} (hb : P b) :
    P (restoreStep phase active heat b) := by
  unfold restoreStep
  repeat' first
    | with_reducible exact hb
    | with_reducible apply queueCheckpoint_closed hP
    | with_reducible apply enterRestored_closed hP
    | with_reducible apply writeStep_closed hP
    | with_reducible apply resetStep_closed hP
    | split

theorem beginRun_closed (delayed : Bool) {b : Block} (hb : P b) :
    P (beginRun delayed b) := by
  unfold beginRun; extract_lets
  repeat' first
    | with_reducible exact hb
    | with_reducible apply startStep_closed hP
    | with_reducible apply hP.run

theorem withdrawStep_closed {b : Block} (hb : P b) :
    P (withdrawStep b) := by
  unfold withdrawStep
  repeat' first
    | with_reducible exact hb
    | with_reducible apply hP.cleared

theorem closeStep_closed (reason : StepEnd) {b : Block} (hb : P b) :
    P (closeStep reason b) := by
  unfold closeStep; extract_lets
  repeat' first
    | with_reducible exact hb
    | with_reducible apply withdrawStep_closed hP
    | with_reducible apply hP.pushed

theorem closeEndingStep_closed (reason : RunEnd) {b : Block} (hb : P b) :
    P (closeEndingStep reason b) := by
  unfold closeEndingStep
  repeat' first
    | with_reducible exact hb
    | with_reducible refine Closed.ite ?_ ?_
    | with_reducible apply closeStep_closed hP

theorem markLamp_closed (reason : RunEnd) {b : Block} (hb : P b) :
    P (markLamp reason b) := by
  unfold markLamp; extract_lets
  repeat' first
    | with_reducible exact hb
    | with_reducible refine Closed.ite ?_ ?_
    | with_reducible refine hP.climate _ _ ?_ ?_
    | rfl

theorem releaseClimate_closed {b : Block} (hb : P b) :
    P (releaseClimate b) := by
  unfold releaseClimate; extract_lets
  repeat' first
    | with_reducible exact hb
    | with_reducible refine Closed.ite ?_ ?_
    | with_reducible apply enterOff_closed hP
    | with_reducible apply putRunHold_closed hP
    | with_reducible refine hP.climate _ _ ?_ ?_
    | rfl

theorem endRun_closed (reason : RunEnd) {b : Block} (hb : P b) :
    P (endRun reason b) := by
  unfold endRun; extract_lets
  repeat' first
    | with_reducible exact hb
    | with_reducible refine Closed.ite ?_ ?_
    | with_reducible apply closeEndingStep_closed hP
    | with_reducible apply hP.cleared
    | with_reducible apply withdrawStep_closed hP
    | with_reducible apply markLamp_closed hP
    | with_reducible apply hP.raised
    | with_reducible refine hP.queued _ _ (by simp [Write.record]) ?_
    | with_reducible apply releaseClimate_closed hP
    | with_reducible apply hP.run

theorem endStep_closed (reason : StepEnd) {b : Block} (hb : P b) :
    P (endStep reason b) := by
  unfold endStep; extract_lets
  repeat' first
    | with_reducible exact hb
    | with_reducible refine Closed.ite ?_ ?_
    | with_reducible apply closeStep_closed hP
    | with_reducible apply startStep_closed hP
    | with_reducible apply hP.run
    | with_reducible apply endRun_closed hP

theorem steamHold_closed (x : Step) {b : Block} (hb : P b) :
    P (steamHold x b) := by
  unfold steamHold; extract_lets
  repeat' first
    | with_reducible exact hb
    | with_reducible refine Closed.ite ?_ ?_
    | with_reducible apply hP.run

theorem probeHold_closed (x : Step) {b : Block} (hb : P b) :
    P (probeHold x b) := by
  unfold probeHold; try extract_lets
  repeat' first
    | with_reducible exact hb
    | with_reducible refine Closed.ite ?_ ?_
    | with_reducible apply setStep_closed hP
    | with_reducible apply hP.raised
    | with_reducible apply hP.run
    | with_reducible apply hP.cleared
    | (split <;> try extract_lets)

theorem countDoorSecond_closed {b : Block} (hb : P b) :
    P (countDoorSecond b) := by
  unfold countDoorSecond; extract_lets
  repeat' first
    | with_reducible exact hb
    | with_reducible refine Closed.ite ?_ ?_
    | with_reducible apply setStep_closed hP

theorem preheatSecond_closed (x : Step) {b : Block} (hb : P b) :
    P (preheatSecond x b) := by
  unfold preheatSecond; extract_lets
  repeat' first
    | with_reducible exact hb
    | with_reducible refine Closed.ite ?_ ?_
    | with_reducible apply setStep_closed hP
    | with_reducible apply enterAfterPreheat_closed hP

theorem countActive_closed (x : Step) {b : Block} (hb : P b) :
    P (countActive x b) := by
  unfold countActive; extract_lets
  repeat' first
    | with_reducible exact hb
    | with_reducible refine Closed.ite ?_ ?_
    | with_reducible apply setStep_closed hP

theorem activeSecond_closed (x : Step) {b : Block} (hb : P b) :
    P (activeSecond x b) := by
  unfold activeSecond; try extract_lets
  repeat' first
    | with_reducible exact hb
    | with_reducible refine Closed.ite ?_ ?_
    | with_reducible apply countActive_closed hP
    | with_reducible apply endStep_closed hP
    | with_reducible apply queueCheckpoint_closed hP
    | (split <;> try extract_lets)

theorem phaseSecond_closed (x : Step) {b : Block} (hb : P b) :
    P (phaseSecond x b) := by
  unfold phaseSecond
  repeat' first
    | with_reducible exact hb
    | with_reducible apply preheatSecond_closed hP
    | with_reducible apply activeSecond_closed hP
    | split

theorem countSensor_closed {b : Block} (hb : P b) :
    P (countSensor b) := by
  unfold countSensor; extract_lets
  repeat' first
    | with_reducible exact hb
    | with_reducible refine Closed.ite ?_ ?_
    | with_reducible apply hP.run

theorem stepSecond_closed {b : Block} (hb : P b) :
    P (stepSecond b) := by
  unfold stepSecond; try extract_lets
  repeat' first
    | with_reducible exact hb
    | with_reducible refine Closed.ite ?_ ?_
    | with_reducible apply countSensor_closed hP
    | with_reducible apply probeHold_closed hP
    | with_reducible apply steamHold_closed hP
    | with_reducible apply endRun_closed hP
    | with_reducible apply countDoorSecond_closed hP
    | with_reducible apply setStep_closed hP
    | with_reducible apply phaseSecond_closed hP
    | (split <;> try extract_lets)

theorem runDoorOpened_closed {b : Block} (hb : P b) :
    P (runDoorOpened b) := by
  unfold runDoorOpened; extract_lets
  repeat' first
    | with_reducible exact hb
    | with_reducible refine Closed.ite ?_ ?_
    | with_reducible apply putHoldDoor_closed hP
    | with_reducible apply setStep_closed hP

theorem runDoorClosed_closed {b : Block} (hb : P b) :
    P (runDoorClosed b) := by
  unfold runDoorClosed; extract_lets
  repeat' first
    | with_reducible exact hb
    | with_reducible refine Closed.ite ?_ ?_
    | with_reducible apply putHoldDoor_closed hP
    | with_reducible apply setStep_closed hP

theorem promptClosed_closed {b : Block} (hb : P b) :
    P (promptClosed b) := by
  unfold promptClosed
  repeat' first
    | with_reducible exact hb
    | with_reducible refine Closed.ite ?_ ?_
    | with_reducible apply enterActive_closed hP
    | split

theorem checkClosed_closed {b : Block} (hb : P b) :
    P (checkClosed b) := by
  unfold checkClosed
  repeat' first
    | with_reducible exact hb
    | with_reducible refine Closed.ite ?_ ?_
    | with_reducible apply endStep_closed hP

end Sys2Proof.Machine
end

