-- ==== Sys2Proof/Laws/Frame.lean ====
section
/-! SUPPORT. The frame of the shared operations: what no operation over the blocks changes, and the
soundness of the report queue, the write queue, the channels and the attention list, which every one of
them keeps. -/

namespace Sys2Proof.Machine

/-! ### The water channels, said once -/

theorem claim_some {k : Claim} {b c : Block} (h : claim k b = some c) :
    claimCheck k b = none ∧ c = setChannel k.channel (claimedRecord k b) b := by
  unfold claim at h; split at h
  · exact absurd h (by simp)
  · exact ⟨‹_›, (Option.some.inj h).symm⟩

/-- A claim that is taken finds the other channel without a transfer in flight (R66). -/
theorem claim_other {k : Claim} {b c : Block} (h : claim k b = some c) :
    (b.channel (otherChannel k.channel)).inFlight = false := by
  have h := (claim_some h).1
  unfold claimCheck at h
  by_contra hc
  rw [Bool.not_eq_false] at hc
  split at h <;> simp_all

/-- A release changes a channel's record only from ENDED to IDLE. -/
theorem release_cases (c : Channel) (o : Owner) (b : Block) :
    release c o b = b ∨ ((b.channel c).state = .ended ∧
      release c o b = setChannel c { b.channel c with state := .idle, owner := .none } b) := by
  unfold release; extract_lets; split
  · exact .inr ⟨(‹_ ∧ _›).1, rfl⟩
  · exact .inl rfl

/-- The end of a transfer changes a channel's record only where one is in flight. -/
theorem endTransfer_cases (c : Channel) (r : EndReason) (b : Block) :
    endTransfer c r b = b ∨ ((b.channel c).inFlight = true ∧
      endTransfer c r b = setChannel c ((b.channel c).finish r b.gen.level) b) := by
  unfold endTransfer; extract_lets; split
  · exact .inr ⟨‹_›, rfl⟩
  · exact .inl rfl

/-! ### The frame -/

/-- What no operation over the blocks changes. -/
structure SameCore (a b : Block) : Prop where
  clock : b.clock = a.clock
  settings : b.settings = a.settings
  straps : b.straps = a.straps
  pins : b.pins = a.pins
  life : b.life = a.life
  runCounter : b.runCounter = a.runCounter
  sensors : b.sensors = a.sensors
  switches : b.switches = a.switches
  link : b.link = a.link
  silence : b.silence = a.silence
  grants : b.share.grants = a.share.grants
  fixed : b.share.fixed = a.share.fixed
  window : b.share.windowTimer = a.share.windowTimer
  loads : b.share.loads = a.share.loads
  level : b.gen.level = a.gen.level
  dryFire : b.gen.dryFire = a.gen.dryFire
  overtemp : b.climate.overtemp = a.climate.overtemp
  inFlight : b.store.inFlight = a.store.inFlight
  slots : b.store.slots = a.store.slots

theorem SameCore.refl (a : Block) : SameCore a a := by constructor <;> rfl

theorem SameCore.trans {a b c : Block} (h : SameCore a b) (g : SameCore b c) : SameCore a c := by
  constructor
  · exact g.clock.trans h.clock
  · exact g.settings.trans h.settings
  · exact g.straps.trans h.straps
  · exact g.pins.trans h.pins
  · exact g.life.trans h.life
  · exact g.runCounter.trans h.runCounter
  · exact g.sensors.trans h.sensors
  · exact g.switches.trans h.switches
  · exact g.link.trans h.link
  · exact g.silence.trans h.silence
  · exact g.grants.trans h.grants
  · exact g.fixed.trans h.fixed
  · exact g.window.trans h.window
  · exact g.loads.trans h.loads
  · exact g.level.trans h.level
  · exact g.dryFire.trans h.dryFire
  · exact g.overtemp.trans h.overtemp
  · exact g.inFlight.trans h.inFlight
  · exact g.slots.trans h.slots

theorem setChannel_core (c : Channel) (r : ChannelRec) (b : Block) :
    SameCore b (setChannel c r b) := by
  cases c <;> constructor <;> rfl

/-- Every operation over the blocks keeps the frame. -/
theorem SameCore.closed (a : Block) : Closed (SameCore a) where
  climate c b e h := h.trans (by constructor <;> first | rfl | exact e)
  descale d b h := h.trans (by constructor <;> rfl)
  run r b h := h.trans (by constructor <;> rfl)
  gen g b e f h := h.trans (by constructor <;> first | rfl | exact e | exact f)
  genRow w p b h := h.trans (by constructor <;> rfl)
  elementRows r t o p b h := h.trans (by constructor <;> rfl)
  raised k d b h := h.trans (by constructor <;> rfl)
  cleared k b h := h.trans (by constructor <;> rfl)
  sourceCleared f b h := h.trans (by constructor <;> rfl)
  queued w b _ h := h.trans (by constructor <;> rfl)
  claimed k b c e h := h.trans ((claim_some e).2 ▸ setChannel_core _ _ _)
  released c o b h := by
    rcases release_cases c o b with e | ⟨-, e⟩ <;> rw [e]
    · exact h
    · exact h.trans (setChannel_core _ _ _)
  ended c r b h := by
    rcases endTransfer_cases c r b with e | ⟨-, e⟩ <;> rw [e]
    · exact h
    · exact h.trans (setChannel_core _ _ _)
  pushed r b h := h.trans (by constructor <;> rfl)

/-! ### The report queue (R134) -/

theorem Reports.push_le (r : Report) (q : Reports) (h : q.list.length ≤ 8) :
    (q.push r).list.length ≤ 8 := by
  unfold Reports.push; split
  · simp; omega
  · exact h

theorem setChannel_reports (c : Channel) (r : ChannelRec) (b : Block) :
    (setChannel c r b).reports = b.reports := by cases c <;> rfl

theorem release_reports (c : Channel) (o : Owner) (b : Block) :
    (release c o b).reports = b.reports := by
  rcases release_cases c o b with e | ⟨-, e⟩ <;> rw [e]
  exact setChannel_reports _ _ _

theorem endTransfer_reports (c : Channel) (r : EndReason) (b : Block) :
    (endTransfer c r b).reports = b.reports := by
  rcases endTransfer_cases c r b with e | ⟨-, e⟩ <;> rw [e]
  exact setChannel_reports _ _ _

theorem ReportsBounded.closed : Closed ReportsBounded where
  climate _ _ _ h := h
  descale _ _ h := h
  run _ _ h := h
  gen _ _ _ _ h := h
  genRow _ _ _ h := h
  elementRows _ _ _ _ _ h := h
  raised _ _ _ h := h
  cleared _ _ h := h
  sourceCleared _ _ h := h
  queued _ _ _ h := h
  claimed k b c e h := by
    unfold ReportsBounded; rw [(claim_some e).2, setChannel_reports]; exact h
  released c o b h := by unfold ReportsBounded; rw [release_reports]; exact h
  ended c r b h := by unfold ReportsBounded; rw [endTransfer_reports]; exact h
  pushed r b h := Reports.push_le r b.reports h

/-! ### The write queue (R174) -/

theorem enqueue_records (w : Write) (q : List Write) :
    (enqueue w q).map Write.record =
      if w.record ∈ q.map Write.record then q.map Write.record
      else q.map Write.record ++ [w.record] := by
  induction q with
  | nil => simp [enqueue]
  | cons x xs ih =>
    simp only [enqueue]
    by_cases hx : x.record = w.record
    · simp [hx]
    · by_cases hm : w.record ∈ xs.map Write.record
      · rw [if_pos hm] at ih
        rw [if_neg hx, List.map_cons, ih, List.map_cons, if_pos (List.mem_cons_of_mem _ hm)]
      · rw [if_neg hm] at ih
        rw [if_neg hx, List.map_cons, ih, List.map_cons, if_neg]
        · rfl
        · simp only [List.mem_cons, not_or]
          exact ⟨Ne.symm hx, hm⟩

theorem WritesDistinct.queued {w : Write} {b : Block} (hw : w.record ≠ .startNote)
    (h : WritesDistinct b) : WritesDistinct (queueWrite w b) := by
  obtain ⟨h1, h2⟩ := h
  unfold WritesDistinct
  rw [queueWrite_store]
  simp only [enqueue_records]
  split
  · exact ⟨h1, h2⟩
  · refine ⟨?_, ?_⟩
    · rw [List.nodup_append]
      simp only [List.mem_singleton]
      exact ⟨h1, List.nodup_singleton _, fun a ha c hc e => by subst hc; subst e; contradiction⟩
    · simp only [List.mem_append, List.mem_singleton, not_or]
      exact ⟨h2, Ne.symm hw⟩

theorem setChannel_store (c : Channel) (r : ChannelRec) (b : Block) :
    (setChannel c r b).store = b.store := by cases c <;> rfl

theorem release_store (c : Channel) (o : Owner) (b : Block) :
    (release c o b).store = b.store := by
  rcases release_cases c o b with e | ⟨-, e⟩ <;> rw [e]
  exact setChannel_store _ _ _

theorem endTransfer_store (c : Channel) (r : EndReason) (b : Block) :
    (endTransfer c r b).store = b.store := by
  rcases endTransfer_cases c r b with e | ⟨-, e⟩ <;> rw [e]
  exact setChannel_store _ _ _

theorem WritesDistinct.closed : Closed WritesDistinct where
  climate _ _ _ h := h
  descale _ _ h := h
  run _ _ h := h
  gen _ _ _ _ h := h
  genRow _ _ _ h := h
  elementRows _ _ _ _ _ h := h
  raised _ _ _ h := h
  cleared _ _ h := h
  sourceCleared _ _ h := h
  queued _ _ hw h := h.queued hw
  claimed k b c e h := by
    unfold WritesDistinct; rw [(claim_some e).2, setChannel_store]; exact h
  released c o b h := by unfold WritesDistinct; rw [release_store]; exact h
  ended c r b h := by unfold WritesDistinct; rw [endTransfer_store]; exact h
  pushed _ _ h := h

/-! ### The two channels (R66) -/

theorem OneTransfer.closed : Closed OneTransfer where
  climate _ _ _ h := h
  descale _ _ h := h
  run _ _ h := h
  gen _ _ _ _ h := h
  genRow _ _ _ h := h
  elementRows _ _ _ _ _ h := h
  raised _ _ _ h := h
  cleared _ _ h := h
  sourceCleared _ _ h := h
  queued _ _ _ h := h
  claimed k b c e h := by
    have ho := claim_other e
    obtain ⟨-, rfl⟩ := claim_some e
    unfold OneTransfer
    cases hk : k.channel <;> rw [hk] at ho <;> simp_all [setChannel, otherChannel, Block.channel]
  released c o b h := by
    rcases release_cases c o b with e | ⟨hs, e⟩ <;> rw [e]
    · exact h
    · unfold OneTransfer at h ⊢
      cases c <;> simp_all [setChannel, Block.channel, ChannelRec.inFlight]
  ended c r b h := by
    rcases endTransfer_cases c r b with e | ⟨hs, e⟩ <;> rw [e]
    · exact h
    · unfold OneTransfer at h ⊢
      cases c <;> simp_all [setChannel, Block.channel, ChannelRec.inFlight, ChannelRec.finish]
  pushed _ _ h := h

/-! ### The attention list (R140, R142, R143, R145) -/

theorem Attn.has_iff (a : Attn) (k : AttnKind) : a.has k = true ↔ k ∈ a.entries.map Entry.kind := by
  simp [Attn.has, Attn.find, List.find?_isSome, List.mem_map]

theorem insertByCode_perm (e : Entry) (l : List Entry) : (insertByCode e l).Perm (e :: l) := by
  induction l with
  | nil => exact .refl _
  | cons x xs ih =>
    unfold insertByCode; split
    · exact .refl _
    · exact (ih.cons x).trans (.swap _ _ _)

/-- A change of entries that keeps every kind and state keeps the list sound. -/
theorem Attn.Sound.mapEntries {a : Attn} (h : a.Sound) (f : Entry → Entry)
    (hk : ∀ e, (f e).kind = e.kind) (hs : ∀ e, (f e).state = e.state) :
    ({ a with entries := a.entries.map f } : Attn).Sound where
  kinds := by
    have : (a.entries.map f).map Entry.kind = a.entries.map Entry.kind := by
      simp [List.map_map, Function.comp_def, hk]
    simpa only [this] using h.kinds
  chain k := by
    simp only [List.mem_map, h.chain k]
    constructor
    · rintro ⟨e, he, rfl, hst⟩
      exact ⟨f e, ⟨e, he, rfl⟩, hk e, (hs e).trans hst⟩
    · rintro ⟨-, ⟨e, he, rfl⟩, rfl, hst⟩
      exact ⟨e, he, (hk e).symm, (hs e).symm.trans hst⟩
  falling := h.falling

/-- A new PENDING entry of a kind the list lacks keeps it sound, wherever it is put. -/
theorem Attn.Sound.insert {a : Attn} (h : a.Sound) {e : Entry} {l : List Entry}
    (hp : l.Perm (e :: a.entries)) (hk : e.kind ∉ a.entries.map Entry.kind)
    (hs : e.state = .pending) : ({ a with entries := l } : Attn).Sound where
  kinds := by
    have : (l.map Entry.kind).Perm (e.kind :: a.entries.map Entry.kind) := hp.map _
    exact this.nodup_iff.mpr (List.nodup_cons.mpr ⟨hk, h.kinds⟩)
  chain k := by
    rw [h.chain k]
    constructor
    · rintro ⟨x, hx, hk, hst⟩
      exact ⟨x, hp.mem_iff.mpr (List.mem_cons_of_mem _ hx), hk, hst⟩
    · rintro ⟨x, hx, hk, hst⟩
      rcases List.mem_cons.mp (hp.mem_iff.mp hx) with rfl | hx
      · rw [hs] at hst; exact absurd hst (by decide)
      · exact ⟨x, hx, hk, hst⟩
  falling := h.falling

theorem Attn.Sound.raise {a : Attn} (h : a.Sound) (k : AttnKind) (d : Detail)
    (t : Option ClockTime) (su : Bool) : (a.raise k d t su).Sound := by
  unfold Attn.raise
  split
  · exact h.mapEntries _ (fun e => by split <;> rfl) (fun e => by split <;> rfl)
  · rename_i hn
    rw [Attn.has_iff] at hn
    split
    · exact h.insert (insertByCode_perm _ _) hn rfl
    · exact h.insert List.perm_append_comm hn rfl

theorem Attn.Sound.remove {a : Attn} (h : a.Sound) (k : AttnKind) : (a.remove k).Sound where
  kinds := (h.kinds.sublist ((List.filter_sublist).map _))
  chain j := by
    simp only [Attn.remove, List.mem_filter, h.chain j, decide_eq_true_eq]
    constructor
    · rintro ⟨⟨e, he, rfl, hs⟩, hj⟩; exact ⟨e, ⟨he, hj⟩, rfl, hs⟩
    · rintro ⟨e, ⟨he, hj⟩, rfl, hs⟩; exact ⟨⟨e, he, rfl, hs⟩, hj⟩
  falling := h.falling.sublist List.filter_sublist

theorem Attn.Sound.clearSource {a : Attn} (h : a.Sound) (f : FaultSource) :
    (a.clearSource f).Sound := by
  unfold Attn.clearSource
  split
  · split
    · exact h.mapEntries _ (fun e => by split <;> rfl) (fun e => by split <;> rfl)
    · exact h.remove _
  · exact h

theorem setChannel_attn (c : Channel) (r : ChannelRec) (b : Block) :
    (setChannel c r b).attn = b.attn := by cases c <;> rfl

theorem release_attn (c : Channel) (o : Owner) (b : Block) :
    (release c o b).attn = b.attn := by
  rcases release_cases c o b with e | ⟨-, e⟩ <;> rw [e]
  exact setChannel_attn _ _ _

theorem endTransfer_attn (c : Channel) (r : EndReason) (b : Block) :
    (endTransfer c r b).attn = b.attn := by
  rcases endTransfer_cases c r b with e | ⟨-, e⟩ <;> rw [e]
  exact setChannel_attn _ _ _

theorem Attn.Sound.closed : Closed fun b => b.attn.Sound where
  climate _ _ _ h := h
  descale _ _ h := h
  run _ _ h := h
  gen _ _ _ _ h := h
  genRow _ _ _ h := h
  elementRows _ _ _ _ _ h := h
  raised _ _ _ h := Attn.Sound.raise h _ _ _ _
  cleared _ _ h := Attn.Sound.remove h _
  sourceCleared _ _ h := Attn.Sound.clearSource h _
  queued _ _ _ h := h
  claimed k b c e h := by rw [(claim_some e).2, setChannel_attn]; exact h
  released c o b h := by rw [release_attn]; exact h
  ended c r b h := by rw [endTransfer_attn]; exact h
  pushed _ _ h := h

end Sys2Proof.Machine
end

