-- ==== Sys2Proof/Laws/PerInstr.lean ====
section
/-! SUPPORT. What holds of every command as syntax: a well-formed request is the command that its own frame
spells, and its frame fits the link. -/

namespace Sys2Proof.Laws.Coded

open Sys2Proof.Machine

/-- A well-formed request is the command of its frame, whose LEN is 1 to 233 and whose bytes are its payload's
and five more (R186, R189). -/
def Statement (i : Instr) : Prop :=
  i.wf = true → ∀ (k : Byte) (p : Payload), requestFrame i = some (k, p) →
    commandOf k p = i ∧ p.length + 1 ≤ 233 ∧ (frameBytes k p).length = p.length + 5

/-- The length of a frame. -/
theorem frame_length (k : Byte) (p : Payload) : (frameBytes k p).length = p.length + 5 := by
  simp [frameBytes, u8, checkBytes, u16]

/-- A request of the catalogue, from its row and its length. -/
theorem of_row {i : Instr} {k : Byte} {p : Payload} (hf : requestFrame i = some (k, p))
    (hc : commandOf k p = i) (hw : i.wf = true → p.length ≤ 232) : Statement i := by
  intro h k' p' e
  rw [hf] at e
  cases e
  exact ⟨hc, Nat.succ_le_succ (hw h), frame_length _ _⟩

/-- An event is no frame. -/
theorem of_event {i : Instr} (hf : requestFrame i = none) : Statement i := by
  intro _ _ _ e
  rw [hf] at e
  cases e

/-- A KIND outside the catalogue has no row in the table of commands. -/
theorem commandOf_unknown {k : Byte} (p : Payload) (h : catalogueKinds.contains k = false) :
    commandOf k p = .unknownKind k p := by
  have hn : commandTable.find? (fun x => decide (x.1 = k)) = none := by
    rw [List.find?_eq_none]
    intro x hx
    have : x.1 ∈ catalogueKinds := by
      have hm : commandTable.map Prod.fst = catalogueKinds := rfl
      rw [← hm]
      exact List.mem_map_of_mem hx
    intro e
    rw [of_decide_eq_true e] at this
    rw [List.contains_iff_mem.mpr this] at h
    cases h
  simp only [commandOf, hn]

theorem ident (p : Payload) : Statement (.ident p) :=
  of_row rfl rfl of_decide_eq_true

theorem status (p : Payload) : Statement (.status p) :=
  of_row rfl rfl of_decide_eq_true

theorem restart (p : Payload) : Statement (.restart p) :=
  of_row rfl rfl of_decide_eq_true

theorem standby (p : Payload) : Statement (.standby p) :=
  of_row rfl rfl of_decide_eq_true

theorem climateSet (p : Payload) : Statement (.climateSet p) :=
  of_row rfl rfl of_decide_eq_true

theorem climateOff (p : Payload) : Statement (.climateOff p) :=
  of_row rfl rfl of_decide_eq_true

theorem budgetSet (p : Payload) : Statement (.budgetSet p) :=
  of_row rfl rfl of_decide_eq_true

theorem generatorDrain (p : Payload) : Statement (.generatorDrain p) :=
  of_row rfl rfl of_decide_eq_true

theorem generatorClear (p : Payload) : Statement (.generatorClear p) :=
  of_row rfl rfl of_decide_eq_true

theorem descaleBegin (p : Payload) : Statement (.descaleBegin p) :=
  of_row rfl rfl of_decide_eq_true

theorem descaleAbort (p : Payload) : Statement (.descaleAbort p) :=
  of_row rfl rfl of_decide_eq_true

theorem recipeStore (p : Payload) : Statement (.recipeStore p) :=
  of_row rfl rfl of_decide_eq_true

theorem recipeRead (p : Payload) : Statement (.recipeRead p) :=
  of_row rfl rfl of_decide_eq_true

theorem recipeErase (p : Payload) : Statement (.recipeErase p) :=
  of_row rfl rfl of_decide_eq_true

theorem recipeList (p : Payload) : Statement (.recipeList p) :=
  of_row rfl rfl of_decide_eq_true

theorem runStart (p : Payload) : Statement (.runStart p) :=
  of_row rfl rfl of_decide_eq_true

theorem runPause (p : Payload) : Statement (.runPause p) :=
  of_row rfl rfl of_decide_eq_true

theorem runResume (p : Payload) : Statement (.runResume p) :=
  of_row rfl rfl of_decide_eq_true

theorem runAdvance (p : Payload) : Statement (.runAdvance p) :=
  of_row rfl rfl of_decide_eq_true

theorem runAbort (p : Payload) : Statement (.runAbort p) :=
  of_row rfl rfl of_decide_eq_true

theorem attentionPeek (p : Payload) : Statement (.attentionPeek p) :=
  of_row rfl rfl of_decide_eq_true

theorem attentionTake (p : Payload) : Statement (.attentionTake p) :=
  of_row rfl rfl of_decide_eq_true

theorem attentionClose (p : Payload) : Statement (.attentionClose p) :=
  of_row rfl rfl of_decide_eq_true

theorem attentionMask (p : Payload) : Statement (.attentionMask p) :=
  of_row rfl rfl of_decide_eq_true

theorem reportTake (p : Payload) : Statement (.reportTake p) :=
  of_row rfl rfl of_decide_eq_true

theorem reportClear (p : Payload) : Statement (.reportClear p) :=
  of_row rfl rfl of_decide_eq_true

theorem clockSet (p : Payload) : Statement (.clockSet p) :=
  of_row rfl rfl of_decide_eq_true

theorem clockRead (p : Payload) : Statement (.clockRead p) :=
  of_row rfl rfl of_decide_eq_true

theorem settingsWrite (p : Payload) : Statement (.settingsWrite p) :=
  of_row rfl rfl of_decide_eq_true

theorem settingsRead (p : Payload) : Statement (.settingsRead p) :=
  of_row rfl rfl of_decide_eq_true

theorem unknownKind (k : Byte) (p : Payload) : Statement (.unknownKind k p) := by
  intro h
  obtain ⟨hp, hk⟩ := (Bool.and_eq_true _ _).mp h
  exact of_row rfl (commandOf_unknown p (by simpa using hk)) (fun _ => of_decide_eq_true hp) h

theorem frameCheckFailed : Statement .frameCheckFailed :=
  of_event rfl

theorem frameDroppedReplyOwed : Statement .frameDroppedReplyOwed :=
  of_event rfl

theorem replySent : Statement .replySent :=
  of_event rfl

theorem interbyteGapTimeout : Statement .interbyteGapTimeout :=
  of_event rfl

theorem lineBreak : Statement .lineBreak :=
  of_event rfl

theorem badStopBit : Statement .badStopBit :=
  of_event rfl

theorem lenOutOfRange : Statement .lenOutOfRange :=
  of_event rfl

theorem standbyByteReceived (b : Byte) : Statement (.standbyByteReceived b) :=
  of_event rfl

theorem silence5s : Statement .silence5s :=
  of_event rfl

theorem silence120s : Statement .silence120s :=
  of_event rfl

theorem controlPeriodExpiry : Statement .controlPeriodExpiry :=
  of_event rfl

theorem flapTravelEnd : Statement .flapTravelEnd :=
  of_event rfl

theorem allocationWindowExpiry : Statement .allocationWindowExpiry :=
  of_event rfl

theorem zeroCrossing : Statement .zeroCrossing :=
  of_event rfl

theorem mainsLoss : Statement .mainsLoss :=
  of_event rfl

theorem samplingExpiry (x : Samples) : Statement (.samplingExpiry x) :=
  of_event rfl

theorem switchRawChange (i : SwitchInput) (v : Bool) : Statement (.switchRawChange i v) :=
  of_event rfl

theorem doorContactChange (c : Contact) (o : Bool) : Statement (.doorContactChange c o) :=
  of_event rfl

theorem doorDisagreementTimeout : Statement .doorDisagreementTimeout :=
  of_event rfl

theorem tankInsertion : Statement .tankInsertion :=
  of_event rfl

theorem tankRemoval : Statement .tankRemoval :=
  of_event rfl

theorem plugIn : Statement .plugIn :=
  of_event rfl

theorem unplug : Statement .unplug :=
  of_event rfl

theorem electrodeChange (e : Electrode) (w : Bool) : Statement (.electrodeChange e w) :=
  of_event rfl

theorem pacingExpiry (c : Channel) : Statement (.pacingExpiry c) :=
  of_event rfl

theorem flowEdge (e : FlowEdge) : Statement (.flowEdge e) :=
  of_event rfl

theorem pauseTimeout (c : Channel) : Statement (.pauseTimeout c) :=
  of_event rfl

theorem soakTimerExpiry : Statement .soakTimerExpiry :=
  of_event rfl

theorem rinseHoldExpiry : Statement .rinseHoldExpiry :=
  of_event rfl

theorem stepTimerExpiry : Statement .stepTimerExpiry :=
  of_event rfl

theorem clockAdvance : Statement .clockAdvance :=
  of_event rfl

theorem retainedWriteComplete : Statement .retainedWriteComplete :=
  of_event rfl

theorem coldStart (x : ColdInputs) : Statement (.coldStart x) :=
  of_event rfl

theorem restartRequestStart (x : StartInputs) : Statement (.restartRequestStart x) :=
  of_event rfl

theorem resetLineAssert : Statement .resetLineAssert :=
  of_event rfl

theorem resetLineRelease (x : StartInputs) : Statement (.resetLineRelease x) :=
  of_event rfl

theorem byteReceived (b : Byte) : Statement (.byteReceived b) :=
  of_event rfl

end Sys2Proof.Laws.Coded
end

