-- ==== Sys2Proof/Laws/Wide.lean ====
section
/-! SUPPORT. What an event or a request can do, said once: it is a chain of the updates that Wide lists, so
a property of the part that those keep is kept by every command. -/

namespace Sys2Proof.Machine

/-- A property that every update of the machine keeps, those of Closed and these. -/
structure Wide (P : Block → Prop) : Prop extends Closed P where
  clock : ∀ (x : Clock) (b : Block), P b → P (setClock x b)
  settings : ∀ (x : Settings) (b : Block), P b → P (setSettings x b)
  life : ∀ (x : Life) (b : Block), P b → P (setLife x b)
  climateAny : ∀ (x : Climate) (b : Block), P b → P (setClimate x b)
  share : ∀ (x : Share) (b : Block), P b → P (setShare x b)
  genAny : ∀ (x : Generator) (b : Block), P b → P (setGen x b)
  runCounter : ∀ (x : Nat) (b : Block), P b → P (setRunCounter x b)
  sensors : ∀ (x : Sensors) (b : Block), P b → P (setSensors x b)
  switches : ∀ (x : Switches) (b : Block), P b → P (setSwitches x b)
  link : ∀ (x : Link) (b : Block), P b → P (setLink x b)
  silence : ∀ (x : Silence) (b : Block), P b → P (setSilence x b)
  channel : ∀ (c : Channel) (r : ChannelRec) (b : Block),
    r.inFlight = (b.channel c).inFlight → P b → P (setChannel c r b)
  taken : ∀ (l : List Report) (f : Bool) (b : Block), l.length ≤ b.reports.list.length → P b →
    P (setReports ⟨l, f⟩ b)
  masked : ∀ (m : List AttnKind) (t : Nat) (b : Block), P b →
    P (setAttn { b.attn with mask := m, threshold := t } b)
  serve : ∀ (e : Entry) (b : Block), b.attn.candidate = some e → b.attn.admits e.kind = true → P b →
    P (setAttn (b.attn.serve e.kind) b)
  acknowledged : ∀ (k : AttnKind) (b : Block), P b → P (setAttn (b.attn.acknowledge k) b)
  served : ∀ b : Block, P b → P (serveStore b)
  committed : ∀ (w : Write) (b : Block), P b →
    P (setStore { b.store.commit w with inFlight := none } b)
  rebuilt : ∀ (cause : StartCause) (v : Straps) (pins : StrapPins) (x : StartInputs) (r : Store)
    (b : Block), r.queue = [] → P b → P (rebuild cause v pins x r b)

variable {P : Block → Prop} (hP : Wide P)

/-- A choice between two answers whose states both have the property. -/
theorem Wide.iteAnswer {c : Prop} {i : Decidable c} {a b : Answer} (ha : P a.after) (hb : P b.after) :
    P (if c then a else b).after := by split <;> assumption

theorem beginRunOn_inFlight (l : Level) (r : ChannelRec) :
    (beginRunOn l r).inFlight = r.inFlight := by unfold beginRunOn; split <;> rfl

theorem pause_inFlight (r : ChannelRec) : r.pause.inFlight = r.inFlight := by
  unfold ChannelRec.pause; split <;> simp_all [ChannelRec.inFlight]

theorem resume_inFlight (r : ChannelRec) : r.resume.inFlight = r.inFlight := by
  unfold ChannelRec.resume; split <;> simp_all [ChannelRec.inFlight]

theorem countEdge_inFlight (n : Nat) (r : ChannelRec) : (r.countEdge n).inFlight = r.inFlight := by
  unfold ChannelRec.countEdge; split <;> rfl

theorem channel_other_fill (r : ChannelRec) (b : Block) :
    (setChannel .fill r b).drain = b.drain := rfl

include hP


/-! ### Ops -/

theorem setInterlock_wide (i : Interlock) {b : Block} (hb : P b) :
    P (setInterlock i b) := by
  unfold setInterlock; try extract_lets
  repeat' first
    | with_reducible exact hb
    | with_reducible refine Closed.ite ?_ ?_
    | with_reducible apply hP.share

theorem clearInterlock_wide (i : Interlock) {b : Block} (hb : P b) :
    P (clearInterlock i b) := by
  unfold clearInterlock; try extract_lets
  repeat' first
    | with_reducible exact hb
    | with_reducible refine Closed.ite ?_ ?_
    | with_reducible apply hP.share

theorem followInterlock_wide (i : Interlock) (v : Bool) {b : Block} (hb : P b) :
    P (followInterlock i v b) := by
  unfold followInterlock
  repeat' first
    | with_reducible exact hb
    | with_reducible refine Closed.ite ?_ ?_
    | with_reducible apply setInterlock_wide hP
    | with_reducible apply clearInterlock_wide hP


/-! ### Generator -/

theorem dryFire_wide {b : Block} (hb : P b) :
    P (dryFire b) := by
  unfold dryFire; try extract_lets
  repeat' first
    | with_reducible exact hb
    | with_reducible apply hP.genAny
    | with_reducible apply setInterlock_wide hP
    | with_reducible apply genReleaseEnded_closed hP.toClosed
    | with_reducible apply endAllTransfers_closed hP.toClosed
    | with_reducible apply hP.toClosed.raised
    | with_reducible apply enterGen_closed hP.toClosed


/-! ### Descale -/

theorem levelChange_wide (new : Level) {b : Block} (hb : P b) : P (levelChange new b) := by
  unfold levelChange; extract_lets
  repeat' first
    | with_reducible exact hb
    | with_reducible refine Closed.ite ?_ ?_
    | with_reducible refine hP.channel _ _ _ (beginRunOn_inFlight _ _) ?_
    | with_reducible apply endAndDeliver_closed hP.toClosed
    | with_reducible apply genLevelChange_closed hP.toClosed
    | with_reducible apply followInterlock_wide hP
    | with_reducible apply hP.genAny

theorem dryFireAll_wide {b : Block} (hb : P b) :
    P (dryFireAll b) := by
  unfold dryFireAll
  repeat' first
    | with_reducible exact hb
    | with_reducible apply descaleDryFire_closed hP.toClosed
    | with_reducible apply dryFire_wide hP

theorem clearDryFire_wide {b : Block} (hb : P b) :
    P (clearDryFire b) := by
  unfold clearDryFire; try extract_lets
  repeat' first
    | with_reducible exact hb
    | with_reducible refine Closed.ite ?_ ?_
    | with_reducible apply clearInterlock_wide hP
    | with_reducible apply dryFire_wide hP
    | with_reducible apply hP.genAny
    | with_reducible apply restartPhase_closed hP.toClosed
    | with_reducible apply enterGen_closed hP.toClosed
    | with_reducible apply enterIdle_closed hP.toClosed


/-! ### Event -/

theorem restartSilence_wide {b : Block} (hb : P b) :
    P (restartSilence b) := by
  unfold restartSilence
  repeat' first
    | with_reducible exact hb
    | with_reducible apply hP.silence

theorem stopSilence_wide {b : Block} (hb : P b) :
    P (stopSilence b) := by
  unfold stopSilence; try extract_lets
  repeat' first
    | with_reducible exact hb
    | with_reducible apply hP.silence

theorem enterStandby_wide {b : Block} (hb : P b) :
    P (enterStandby b) := by
  unfold enterStandby; try extract_lets
  repeat' first
    | with_reducible exact hb
    | with_reducible apply setInterlock_wide hP
    | with_reducible apply hP.share
    | with_reducible apply hP.climateAny
    | with_reducible apply stopSilence_wide hP
    | with_reducible apply queueScale_closed hP.toClosed
    | with_reducible apply hP.life

theorem wake_wide (c : WakeCause) {b : Block} (hb : P b) :
    P (wake c b) := by
  unfold wake; try extract_lets
  repeat' first
    | with_reducible exact hb
    | with_reducible refine Closed.ite ?_ ?_
    | with_reducible apply hP.life
    | with_reducible apply clearInterlock_wide hP
    | with_reducible apply restartSilence_wide hP
    | with_reducible apply hP.share

theorem examineDoorOpen_wide (before : Block) {b : Block} (hb : P b) :
    P (examineDoorOpen before b) := by
  unfold examineDoorOpen
  repeat' first
    | with_reducible exact hb
    | with_reducible refine Closed.ite ?_ ?_
    | with_reducible apply followCondition_closed hP.toClosed

theorem examineDescaleWrite_wide (before : Block) {b : Block} (hb : P b) :
    P (examineDescaleWrite before b) := by
  unfold examineDescaleWrite
  repeat' first
    | with_reducible exact hb
    | with_reducible refine Closed.ite ?_ ?_
    | with_reducible refine hP.toClosed.queued _ _ (by simp [Write.record]) ?_

theorem examineSilence_wide (before : Block) {b : Block} (hb : P b) :
    P (examineSilence before b) := by
  unfold examineSilence
  repeat' first
    | with_reducible exact hb
    | with_reducible refine Closed.ite ?_ ?_
    | with_reducible apply restartSilence_wide hP
    | with_reducible apply hP.silence

theorem examineStandby_wide (before : Block) {b : Block} (hb : P b) :
    P (examineStandby before b) := by
  unfold examineStandby; try extract_lets
  repeat' first
    | with_reducible exact hb
    | with_reducible refine Closed.ite ?_ ?_
    | with_reducible apply hP.life
    | with_reducible apply enterStandby_wide hP

theorem examineStore_wide (before : Block) {b : Block} (hb : P b) :
    P (examineStore before b) := by
  unfold examineStore
  repeat' first
    | with_reducible exact hb
    | with_reducible refine Closed.ite ?_ ?_
    | with_reducible apply hP.served

theorem finishEvent_wide (before : Block) {b : Block} (hb : P b) :
    P (finishEvent before b) := by
  unfold finishEvent
  repeat' first
    | with_reducible exact hb
    | with_reducible apply examineStore_wide hP
    | with_reducible apply examineStandby_wide hP
    | with_reducible apply examineSilence_wide hP
    | with_reducible apply examineDescaleWrite_wide hP
    | with_reducible apply examineDoorOpen_wide hP

theorem event_wide {f : Block → Block} (hf : ∀ b, P b → P (f b)) {b : Block} (hb : P b) :
    P (event f b) := by
  unfold event; split
  · exact finishEvent_wide hP _ (hf _ hb)
  · exact hb

theorem refuse_wide (st : Status) {b : Block} (hb : P b) :
    P (refuse st b).after := by
  unfold refuse
  repeat' first
    | with_reducible exact hb

theorem answerOk_wide (content : Payload) {b : Block} (hb : P b) :
    P (answerOk content b).after := by
  unfold answerOk
  repeat' first
    | with_reducible exact hb

theorem dropFrame_wide {b : Block} (hb : P b) :
    P (dropFrame b) := by
  unfold dropFrame; try extract_lets
  repeat' first
    | with_reducible exact hb
    | with_reducible apply hP.link

theorem endSilent_wide {b : Block} (hb : P b) :
    P (endSilent b) := by
  unfold endSilent; try extract_lets
  repeat' first
    | with_reducible exact hb
    | with_reducible refine Closed.ite ?_ ?_
    | with_reducible apply putHoldSilent_closed hP.toClosed
    | with_reducible apply putSilentReason_closed hP.toClosed

theorem acceptFrame_wide {b : Block} (hb : P b) :
    P (acceptFrame b) := by
  unfold acceptFrame; try extract_lets
  repeat' first
    | with_reducible exact hb
    | with_reducible apply restartSilence_wide hP
    | with_reducible apply endSilent_wide hP
    | with_reducible apply hP.link

theorem oweReply_wide (kind : Byte) (st : Status) (content : Payload) {b : Block} (hb : P b) :
    P (oweReply kind st content b) := by
  unfold oweReply; try extract_lets
  repeat' first
    | with_reducible exact hb
    | with_reducible apply hP.link

theorem request_wide (kind : Byte) {handler : Block → Answer}
    (hh : ∀ b, P b → P (handler b).after) {b : Block} (hb : P b) : P (request kind handler b) := by
  unfold request
  repeat' first
    | with_reducible exact hb
    | with_reducible refine Closed.ite ?_ ?_
    | with_reducible refine finishEvent_wide hP _ ?_
    | with_reducible apply dropFrame_wide hP
    | with_reducible apply wake_wide hP
  unfold Answer.reply
  exact oweReply_wide hP _ _ _ (hh _ (acceptFrame_wide hP (wake_wide hP _ hb)))

theorem startIfDue_wide {b : Block} (hb : P b) :
    P (startIfDue b) := by
  unfold startIfDue
  repeat' first
    | with_reducible exact hb
    | with_reducible refine Closed.ite ?_ ?_
    | with_reducible apply beginRun_closed hP.toClosed
    | with_reducible apply wake_wide hP
    | split

theorem overtemperature_wide {b : Block} (hb : P b) :
    P (overtemperature b) := by
  unfold overtemperature; try extract_lets
  repeat' first
    | with_reducible exact hb
    | with_reducible refine Closed.ite ?_ ?_
    | with_reducible apply hP.climateAny
    | with_reducible apply zeroDemand_closed hP.toClosed
    | with_reducible apply setInterlock_wide hP
    | with_reducible apply enterFault_closed hP.toClosed
    | with_reducible apply hP.toClosed.raised
    | with_reducible apply endRun_closed hP.toClosed

theorem shutDown_wide (reason : EndReason) {b : Block} (hb : P b) :
    P (shutDown reason b) := by
  unfold shutDown
  repeat' first
    | with_reducible exact hb
    | with_reducible apply settleEnded_closed hP.toClosed
    | with_reducible apply endAllTransfers_closed hP.toClosed
    | with_reducible apply setInterlock_wide hP


/-! ### ClimateCommands -/

theorem takeClimateSet_wide (x : ClimateSetting) {b : Block} (hb : P b) :
    P (takeClimateSet x b) := by
  unfold takeClimateSet; try extract_lets
  repeat' first
    | with_reducible exact hb
    | with_reducible apply applySetting_closed hP.toClosed
    | with_reducible apply hP.climateAny

theorem climateSetRequest_wide (p : Payload) {b : Block} (hb : P b) :
    P (climateSetRequest p b).after := by
  unfold climateSetRequest; try extract_lets
  repeat' first
    | with_reducible exact hb
    | with_reducible refine Closed.ite ?_ ?_
    | with_reducible refine Wide.iteAnswer ?_ ?_
    | with_reducible apply refuse_wide hP
    | with_reducible apply takeClimateSet_wide hP
    | with_reducible apply answerOk_wide hP
    | (split <;> try extract_lets)

theorem clearOvertemp_wide {b : Block} (hb : P b) :
    P (clearOvertemp b) := by
  unfold clearOvertemp; try extract_lets
  repeat' first
    | with_reducible exact hb
    | with_reducible refine Closed.ite ?_ ?_
    | with_reducible apply clearInterlock_wide hP
    | with_reducible apply hP.climateAny
    | with_reducible apply enterOff_closed hP.toClosed

theorem climateOffRequest_wide (p : Payload) {b : Block} (hb : P b) :
    P (climateOffRequest p b).after := by
  unfold climateOffRequest
  repeat' first
    | with_reducible exact hb
    | with_reducible refine Closed.ite ?_ ?_
    | with_reducible refine Wide.iteAnswer ?_ ?_
    | with_reducible apply refuse_wide hP
    | with_reducible apply answerOk_wide hP
    | with_reducible apply clearOvertemp_wide hP
    | with_reducible apply enterOff_closed hP.toClosed

theorem controlExpiry_wide {b : Block} (hb : P b) :
    P (controlExpiry b) := by
  unfold controlExpiry
  repeat' first
    | with_reducible exact hb
    | with_reducible refine Closed.ite ?_ ?_
    | with_reducible apply controlPeriod_closed hP.toClosed
    | split

theorem flapEnd_wide {b : Block} (hb : P b) :
    P (flapEnd b) := by
  unfold flapEnd; try extract_lets
  repeat' first
    | with_reducible exact hb
    | with_reducible refine Closed.ite ?_ ?_
    | with_reducible apply hP.climateAny
    | (split <;> try extract_lets)


/-! ### PowerCommands -/

theorem budgetSetRequest_wide (p : Payload) {b : Block} (hb : P b) :
    P (budgetSetRequest p b).after := by
  unfold budgetSetRequest; try extract_lets
  repeat' first
    | with_reducible exact hb
    | with_reducible refine Closed.ite ?_ ?_
    | with_reducible refine Wide.iteAnswer ?_ ?_
    | with_reducible apply refuse_wide hP
    | with_reducible apply hP.settings
    | with_reducible apply answerOk_wide hP
    | with_reducible apply queueSettings_closed hP.toClosed

theorem windowExpiry_wide {b : Block} (hb : P b) :
    P (windowExpiry b) := by
  unfold windowExpiry; try extract_lets
  repeat' first
    | with_reducible exact hb
    | with_reducible refine Closed.ite ?_ ?_
    | with_reducible apply hP.share

theorem halfCycle_wide {b : Block} (hb : P b) :
    P (halfCycle b) := by
  unfold halfCycle; try extract_lets
  repeat' first
    | with_reducible exact hb
    | with_reducible apply hP.share


/-! ### GeneratorCommands -/

theorem takeGeneratorDrain_wide {b : Block} (hb : P b) :
    P (takeGeneratorDrain b) := by
  unfold takeGeneratorDrain; try extract_lets
  repeat' first
    | with_reducible exact hb
    | with_reducible apply enterGen_closed hP.toClosed
    | with_reducible apply hP.genAny

theorem generatorDrainRequest_wide (p : Payload) {b : Block} (hb : P b) :
    P (generatorDrainRequest p b).after := by
  unfold generatorDrainRequest
  repeat' first
    | with_reducible exact hb
    | with_reducible refine Closed.ite ?_ ?_
    | with_reducible refine Wide.iteAnswer ?_ ?_
    | with_reducible apply refuse_wide hP
    | with_reducible apply answerOk_wide hP
    | with_reducible apply takeGeneratorDrain_wide hP

theorem generatorClearRequest_wide (p : Payload) {b : Block} (hb : P b) :
    P (generatorClearRequest p b).after := by
  unfold generatorClearRequest
  repeat' first
    | with_reducible exact hb
    | with_reducible refine Closed.ite ?_ ?_
    | with_reducible refine Wide.iteAnswer ?_ ?_
    | with_reducible apply refuse_wide hP
    | with_reducible apply answerOk_wide hP
    | with_reducible apply clearDryFire_wide hP


/-! ### ChannelCommands -/

theorem pacing_wide (c : Channel) {b : Block} (hb : P b) : P (pacing c b) := by
  unfold pacing; extract_lets; split
  · split
    · exact endAndDeliver_closed hP.toClosed _ _ hb
    · exact hP.channel _ _ _ rfl hb
  · exact hb

theorem flowEdge_wide (e : FlowEdge) {b : Block} (hb : P b) : P (flowEdge e b) := by
  unfold flowEdge; split
  · exact hP.channel _ _ _ (countEdge_inFlight _ _) hb
  · exact hb

theorem pauseTimeout_wide (c : Channel) {b : Block} (hb : P b) : P (pauseTimeout c b) := by
  unfold pauseTimeout; extract_lets; split
  · exact endAndDeliver_closed hP.toClosed _ _ (hP.channel _ _ _ rfl hb)
  · exact hb


/-! ### DescaleCommands -/

theorem descaleBeginRequest_wide (p : Payload) {b : Block} (hb : P b) :
    P (descaleBeginRequest p b).after := by
  unfold descaleBeginRequest
  repeat' first
    | with_reducible exact hb
    | with_reducible refine Closed.ite ?_ ?_
    | with_reducible refine Wide.iteAnswer ?_ ?_
    | with_reducible apply refuse_wide hP
    | with_reducible apply answerOk_wide hP
    | with_reducible apply beginDescale_closed hP.toClosed

theorem descaleAbortRequest_wide (p : Payload) {b : Block} (hb : P b) :
    P (descaleAbortRequest p b).after := by
  unfold descaleAbortRequest
  repeat' first
    | with_reducible exact hb
    | with_reducible refine Closed.ite ?_ ?_
    | with_reducible refine Wide.iteAnswer ?_ ?_
    | with_reducible apply refuse_wide hP
    | with_reducible apply answerOk_wide hP
    | with_reducible apply abortDescale_closed hP.toClosed

theorem soakExpiry_wide {b : Block} (hb : P b) :
    P (soakExpiry b) := by
  unfold soakExpiry
  repeat' first
    | with_reducible exact hb
    | with_reducible refine Closed.ite ?_ ?_
    | with_reducible apply countSoakSecond_closed hP.toClosed

theorem rinseHoldEnd_wide {b : Block} (hb : P b) :
    P (rinseHoldEnd b) := by
  unfold rinseHoldEnd; try extract_lets
  repeat' first
    | with_reducible exact hb
    | with_reducible refine Closed.ite ?_ ?_
    | with_reducible apply enterDrainPhase_closed hP.toClosed
    | with_reducible apply hP.toClosed.descale


/-! ### RecipeCommands -/

theorem takeStore_wide (n : Fin 16) (r : Recipe) {b : Block} (hb : P b) :
    P (takeStore n r b) := by
  unfold takeStore
  repeat' first
    | with_reducible exact hb
    | with_reducible refine hP.toClosed.queued _ _ (by simp [Write.record]) ?_

theorem recipeStoreRequest_wide (p : Payload) {b : Block} (hb : P b) :
    P (recipeStoreRequest p b).after := by
  unfold recipeStoreRequest
  repeat' first
    | with_reducible exact hb
    | with_reducible refine Closed.ite ?_ ?_
    | with_reducible refine Wide.iteAnswer ?_ ?_
    | with_reducible apply refuse_wide hP
    | with_reducible apply answerOk_wide hP
    | with_reducible apply takeStore_wide hP
    | split

theorem slotRequest_wide (p : Payload) {k : Fin 16 → Answer} {b : Block} (hb : P b)
    (hk : ∀ n, P (k n).after) : P (slotRequest p b k).after := by
  unfold slotRequest
  repeat' first
    | with_reducible exact hb
    | with_reducible exact hk _
    | with_reducible refine Wide.iteAnswer ?_ ?_
    | with_reducible apply refuse_wide hP
    | split

theorem recipeReadRequest_wide (p : Payload) {b : Block} (hb : P b) :
    P (recipeReadRequest p b).after := by
  refine slotRequest_wide hP p hb fun n => ?_
  split
  · exact hb
  · exact answerOk_wide hP _ hb

theorem recipeEraseRequest_wide (p : Payload) {b : Block} (hb : P b) :
    P (recipeEraseRequest p b).after := by
  refine slotRequest_wide hP p hb fun n => ?_
  split
  · exact refuse_wide hP _ hb
  · exact answerOk_wide hP _ (hP.queued _ _ (by simp [Write.record]) hb)

theorem recipeListRequest_wide (p : Payload) {b : Block} (hb : P b) :
    P (recipeListRequest p b).after := by
  unfold recipeListRequest
  repeat' first
    | with_reducible exact hb
    | with_reducible refine Closed.ite ?_ ?_
    | with_reducible refine Wide.iteAnswer ?_ ?_
    | with_reducible apply refuse_wide hP
    | with_reducible apply answerOk_wide hP


/-! ### RunCommands -/

theorem takeRunStart_wide (n : Fin 16) (r : Recipe) (f : StartFields) {b : Block} (hb : P b) :
    P (takeRunStart n r f b) := by
  unfold takeRunStart; try extract_lets
  repeat' first
    | with_reducible exact hb
    | with_reducible refine Closed.ite ?_ ?_
    | with_reducible apply hP.runCounter
    | with_reducible apply hP.toClosed.run
    | with_reducible apply hP.climateAny
    | with_reducible apply queueCheckpoint_closed hP.toClosed
    | with_reducible apply beginRun_closed hP.toClosed

theorem startRecipe_wide (n : Fin 16) (r : Recipe) (f : StartFields) {b : Block} (hb : P b) :
    P (startRecipe n r f b).after := by
  unfold startRecipe; try extract_lets
  repeat' first
    | with_reducible exact hb
    | with_reducible refine Closed.ite ?_ ?_
    | with_reducible refine Wide.iteAnswer ?_ ?_
    | with_reducible apply refuse_wide hP
    | with_reducible apply takeRunStart_wide hP
    | with_reducible apply answerOk_wide hP

theorem runStartRequest_wide (p : Payload) {b : Block} (hb : P b) :
    P (runStartRequest p b).after := by
  unfold runStartRequest
  repeat' first
    | with_reducible exact hb
    | with_reducible refine Closed.ite ?_ ?_
    | with_reducible refine Wide.iteAnswer ?_ ?_
    | with_reducible apply refuse_wide hP
    | with_reducible apply startRecipe_wide hP
    | split

theorem runPauseRequest_wide (p : Payload) {b : Block} (hb : P b) :
    P (runPauseRequest p b).after := by
  unfold runPauseRequest; try extract_lets
  repeat' first
    | with_reducible exact hb
    | with_reducible refine Closed.ite ?_ ?_
    | with_reducible refine Wide.iteAnswer ?_ ?_
    | with_reducible apply refuse_wide hP
    | with_reducible apply answerOk_wide hP
    | with_reducible apply putHold_closed hP.toClosed

theorem resumeRun_wide {b : Block} (hb : P b) :
    P (resumeRun b) := by
  unfold resumeRun; try extract_lets
  repeat' first
    | with_reducible exact hb
    | with_reducible refine Closed.ite ?_ ?_
    | with_reducible apply hP.toClosed.cleared
    | with_reducible apply putHold_closed hP.toClosed

theorem runResumeRequest_wide (p : Payload) {b : Block} (hb : P b) :
    P (runResumeRequest p b).after := by
  unfold runResumeRequest
  repeat' first
    | with_reducible exact hb
    | with_reducible refine Closed.ite ?_ ?_
    | with_reducible refine Wide.iteAnswer ?_ ?_
    | with_reducible apply refuse_wide hP
    | with_reducible apply answerOk_wide hP
    | with_reducible apply resumeRun_wide hP

theorem runAdvanceRequest_wide (p : Payload) {b : Block} (hb : P b) :
    P (runAdvanceRequest p b).after := by
  unfold runAdvanceRequest
  repeat' first
    | with_reducible exact hb
    | with_reducible refine Closed.ite ?_ ?_
    | with_reducible refine Wide.iteAnswer ?_ ?_
    | with_reducible apply refuse_wide hP
    | with_reducible apply answerOk_wide hP
    | with_reducible apply endStep_closed hP.toClosed

theorem runAbortRequest_wide (p : Payload) {b : Block} (hb : P b) :
    P (runAbortRequest p b).after := by
  unfold runAbortRequest
  repeat' first
    | with_reducible exact hb
    | with_reducible refine Closed.ite ?_ ?_
    | with_reducible refine Wide.iteAnswer ?_ ?_
    | with_reducible apply refuse_wide hP
    | with_reducible apply answerOk_wide hP
    | with_reducible apply endRun_closed hP.toClosed

theorem stepExpiry_wide {b : Block} (hb : P b) :
    P (stepExpiry b) := by
  unfold stepExpiry
  repeat' first
    | with_reducible exact hb
    | with_reducible refine Closed.ite ?_ ?_
    | with_reducible apply stepSecond_closed hP.toClosed

theorem reportTakeRequest_wide (p : Payload) {b : Block} (hb : P b) :
    P (reportTakeRequest p b).after := by
  unfold reportTakeRequest; split
  · exact refuse_wide hP _ hb
  · split
    · exact refuse_wide hP _ hb
    · rename_i rs e
      exact answerOk_wide hP _ (hP.taken rs _ b (by rw [e]; simp) hb)

theorem reportClearRequest_wide (p : Payload) {b : Block} (hb : P b) :
    P (reportClearRequest p b).after := by
  unfold reportClearRequest; split
  · exact refuse_wide hP _ hb
  · exact answerOk_wide hP _ (hP.taken [] false b (by simp) hb)


/-! ### AttentionCommands -/

theorem attentionPeekRequest_wide (p : Payload) {b : Block} (hb : P b) :
    P (attentionPeekRequest p b).after := by
  unfold attentionPeekRequest
  repeat' first
    | with_reducible exact hb
    | with_reducible refine Closed.ite ?_ ?_
    | with_reducible refine Wide.iteAnswer ?_ ?_
    | with_reducible apply refuse_wide hP
    | with_reducible apply answerOk_wide hP

theorem attentionTakeRequest_wide (p : Payload) {b : Block} (hb : P b) :
    P (attentionTakeRequest p b).after := by
  unfold attentionTakeRequest; split
  · exact refuse_wide hP _ hb
  · split
    · exact refuse_wide hP _ hb
    · split
      · exact answerOk_wide hP _ (hP.serve _ _ ‹_› ‹_› hb)
      · exact refuse_wide hP _ hb

theorem closed_wide (k : AttnKind) (o : CloseOutcome) {b : Block} (hb : P b) :
    P (closed k o b).after := by
  unfold closed
  repeat' first
    | with_reducible exact hb
    | with_reducible apply answerOk_wide hP

theorem latchedClosed_wide (k : AttnKind) {b : Block} (hb : P b) :
    P (latchedClosed k b) := by
  unfold latchedClosed
  repeat' first
    | with_reducible exact hb
    | with_reducible refine Closed.ite ?_ ?_
    | with_reducible apply retryDescaleEmpty_closed hP.toClosed
    | with_reducible apply retryWater_closed hP.toClosed

theorem promptAccepted_wide (k : AttnKind) {b : Block} (hb : P b) :
    P (promptAccepted k b) := by
  unfold promptAccepted
  repeat' first
    | with_reducible exact hb
    | with_reducible apply enterAgentFill_closed hP.toClosed
    | with_reducible apply enterRinseFill_closed hP.toClosed
    | with_reducible apply promptClosed_closed hP.toClosed
    | with_reducible apply checkClosed_closed hP.toClosed
    | split

theorem closeEntry_wide (k : AttnKind) {b : Block} (hb : P b) : P (closeEntry k b).after := by
  unfold closeEntry; split
  · exact closed_wide hP _ _ (latchedClosed_wide hP _ (hP.cleared _ _ hb))
  · split
    · exact closed_wide hP _ _ (hP.acknowledged _ _ hb)
    · exact closed_wide hP _ _ (hP.cleared _ _ hb)
  · split
    · exact closed_wide hP _ _ (promptAccepted_wide hP _ (hP.cleared _ _ hb))
    · exact hb

theorem attentionCloseRequest_wide (p : Payload) {b : Block} (hb : P b) :
    P (attentionCloseRequest p b).after := by
  unfold attentionCloseRequest
  repeat' first
    | with_reducible exact hb
    | with_reducible refine Closed.ite ?_ ?_
    | with_reducible refine Wide.iteAnswer ?_ ?_
    | with_reducible apply refuse_wide hP
    | with_reducible apply closeEntry_wide hP
    | split

theorem attentionMaskRequest_wide (p : Payload) {b : Block} (hb : P b) :
    P (attentionMaskRequest p b).after := by
  unfold attentionMaskRequest; extract_lets; split
  · exact refuse_wide hP _ hb
  · exact answerOk_wide hP _ (hP.masked _ _ _ hb)


/-! ### StartUp -/

theorem clampStartBudget_wide {b : Block} (hb : P b) :
    P (clampStartBudget b) := by
  unfold clampStartBudget; try extract_lets
  repeat' first
    | with_reducible exact hb
    | with_reducible refine Closed.ite ?_ ?_
    | with_reducible apply queueSettings_closed hP.toClosed
    | with_reducible apply hP.settings

theorem clampStartRemainder_wide {b : Block} (hb : P b) :
    P (clampStartRemainder b) := by
  unfold clampStartRemainder; try extract_lets
  repeat' first
    | with_reducible exact hb
    | with_reducible refine Closed.ite ?_ ?_
    | with_reducible apply queueScale_closed hP.toClosed
    | with_reducible apply hP.genAny

theorem placeDescale_wide {b : Block} (hb : P b) :
    P (placeDescale b) := by
  unfold placeDescale; try extract_lets
  repeat' first
    | with_reducible exact hb
    | with_reducible refine Closed.ite ?_ ?_
    | with_reducible apply hP.climateAny
    | with_reducible apply hP.genAny

theorem loseRun_wide (k : Checkpoint) {b : Block} (hb : P b) :
    P (loseRun k b) := by
  unfold loseRun; try extract_lets
  repeat' first
    | with_reducible exact hb
    | with_reducible refine Closed.ite ?_ ?_
    | with_reducible apply hP.toClosed.pushed
    | with_reducible refine hP.toClosed.queued _ _ (by simp [Write.record]) ?_
    | with_reducible apply hP.toClosed.raised

theorem restorePending_wide (k : Checkpoint) (r : Recipe) {b : Block} (hb : P b) :
    P (restorePending k r b) := by
  unfold restorePending
  repeat' first
    | with_reducible exact hb
    | with_reducible apply queueCheckpoint_closed hP.toClosed
    | with_reducible apply hP.toClosed.run

theorem restoreRunning_wide (k : Checkpoint) (r : Recipe) {b : Block} (hb : P b) :
    P (restoreRunning k r b) := by
  unfold restoreRunning; try extract_lets
  repeat' first
    | with_reducible exact hb
    | with_reducible refine Closed.ite ?_ ?_
    | with_reducible apply hP.toClosed.run
    | with_reducible apply queueCheckpoint_closed hP.toClosed
    | with_reducible apply hP.toClosed.raised

theorem takeSource_wide {b : Block} (hb : P b) :
    P (takeSource b) := by
  unfold takeSource; try extract_lets
  repeat' first
    | with_reducible exact hb
    | with_reducible apply hP.climateAny

theorem examineCheckpoint_wide {b : Block} (hb : P b) :
    P (examineCheckpoint b) := by
  unfold examineCheckpoint
  repeat' first
    | with_reducible exact hb
    | with_reducible apply loseRun_wide hP
    | with_reducible apply takeSource_wide hP
    | with_reducible apply restorePending_wide hP
    | with_reducible apply restoreRunning_wide hP
    | split

theorem startUp_wide (cause : StartCause) (v : Straps) (pins : StrapPins) (x : StartInputs)
    {b : Block} (hb : P b) : P (startUp cause v pins x b) := by
  unfold startUp; extract_lets
  exact restartSilence_wide hP (examineCheckpoint_wide hP
    (followCondition_closed hP.toClosed _ _ (followScale_closed hP.toClosed
      (placeDescale_wide hP (clampStartRemainder_wide hP (clampStartBudget_wide hP
        (hP.rebuilt _ _ _ _ _ _ rfl hb)))))))

theorem coldStart_wide (x : ColdInputs) {b : Block} (hb : P b) :
    P (coldStart x b) := by
  unfold coldStart
  repeat' first
    | with_reducible exact hb
    | with_reducible refine Closed.ite ?_ ?_
    | with_reducible apply startUp_wide hP

theorem warmStart_wide (cause : StartCause) (x : StartInputs) {b : Block} (hb : P b) :
    P (warmStart cause x b) := by
  unfold warmStart
  repeat' first
    | with_reducible exact hb
    | with_reducible apply startUp_wide hP

theorem takeReasons_wide {b : Block} (hb : P b) :
    P (takeReasons b) := by
  unfold takeReasons
  repeat' first
    | with_reducible exact hb
    | with_reducible apply putSensorReason_closed hP.toClosed
    | with_reducible apply putDoorReason_closed hP.toClosed

theorem takeSwitches_wide {b : Block} (hb : P b) :
    P (takeSwitches b) := by
  unfold takeSwitches; try extract_lets
  repeat' first
    | with_reducible exact hb
    | with_reducible apply hP.genAny
    | with_reducible apply followInterlock_wide hP
    | with_reducible apply hP.switches

theorem followLevelFault_wide {b : Block} (hb : P b) :
    P (followLevelFault b) := by
  unfold followLevelFault
  repeat' first
    | with_reducible exact hb
    | with_reducible refine Closed.ite ?_ ?_
    | with_reducible apply raiseSource_closed hP.toClosed
    | with_reducible apply hP.toClosed.sourceCleared

theorem resumeRunStep_wide {b : Block} (hb : P b) :
    P (resumeRunStep b) := by
  unfold resumeRunStep; try extract_lets
  repeat' first
    | with_reducible exact hb
    | with_reducible apply startStep_closed hP.toClosed
    | with_reducible apply hP.toClosed.run
    | with_reducible apply restoreStep_closed hP.toClosed
    | (split <;> try extract_lets)

theorem takeDoorOpen_wide {b : Block} (hb : P b) :
    P (takeDoorOpen b) := by
  unfold takeDoorOpen
  repeat' first
    | with_reducible exact hb
    | with_reducible apply followCondition_closed hP.toClosed

theorem endStartUp_wide {b : Block} (hb : P b) :
    P (endStartUp b) := by
  unfold endStartUp; try extract_lets
  repeat' first
    | with_reducible exact hb
    | with_reducible apply followLevelFault_wide hP
    | with_reducible apply takeReasons_wide hP
    | with_reducible apply takeSwitches_wide hP
    | with_reducible apply resumeRunStep_wide hP
    | with_reducible apply resumeDescale_closed hP.toClosed
    | with_reducible apply takeDoorOpen_wide hP
    | with_reducible apply startIfDue_wide hP
    | with_reducible apply hP.share
    | with_reducible apply hP.life


/-! ### SensorCommands -/

theorem cavitySample_wide (v : Int) {b : Block} (hb : P b) :
    P (cavitySample v b) := by
  unfold cavitySample
  repeat' first
    | with_reducible exact hb
    | with_reducible refine Closed.ite ?_ ?_
    | with_reducible apply overtemperature_wide hP

theorem runSensor_wide (v : Bool) {b : Block} (hb : P b) :
    P (runSensor v b) := by
  unfold runSensor
  repeat' first
    | with_reducible exact hb
    | with_reducible refine Closed.ite ?_ ?_
    | with_reducible apply putHoldSensor_closed hP.toClosed

theorem deliverCavity_wide (d : Delivery) {b : Block} (hb : P b) :
    P (deliverCavity d b) := by
  unfold deliverCavity
  repeat' first
    | with_reducible exact hb
    | with_reducible apply cavitySample_wide hP
    | with_reducible apply runSensor_wide hP
    | with_reducible apply putSensorReason_closed hP.toClosed
    | with_reducible apply hP.toClosed.sourceCleared
    | with_reducible apply raiseSource_closed hP.toClosed
    | split

theorem wallSample_wide (v : Int) {b : Block} (hb : P b) :
    P (wallSample v b) := by
  unfold wallSample
  repeat' first
    | with_reducible exact hb
    | with_reducible refine Closed.ite ?_ ?_
    | with_reducible apply dryFire_wide hP
    | with_reducible apply dryFireAll_wide hP
    | with_reducible apply descaleWallSample_closed hP.toClosed
    | with_reducible apply genWallSample_closed hP.toClosed

theorem deliverGenerator_wide (d : Delivery) {b : Block} (hb : P b) :
    P (deliverGenerator d b) := by
  unfold deliverGenerator
  repeat' first
    | with_reducible exact hb
    | with_reducible apply wallSample_wide hP
    | with_reducible apply genChannelValid_closed hP.toClosed
    | with_reducible apply hP.toClosed.sourceCleared
    | with_reducible apply descaleWallInvalid_closed hP.toClosed
    | with_reducible apply genChannelInvalid_closed hP.toClosed
    | with_reducible apply raiseSource_closed hP.toClosed
    | split

theorem deliverProbe_wide (d : Delivery) {b : Block} (hb : P b) :
    P (deliverProbe d b) := by
  unfold deliverProbe
  repeat' first
    | with_reducible exact hb
    | with_reducible refine Closed.ite ?_ ?_
    | with_reducible apply hP.toClosed.sourceCleared
    | with_reducible apply raiseSource_closed hP.toClosed
    | split

theorem deliverMoisture_wide (d : Delivery) {b : Block} (hb : P b) :
    P (deliverMoisture d b) := by
  unfold deliverMoisture
  repeat' first
    | with_reducible exact hb
    | with_reducible apply hP.toClosed.sourceCleared
    | with_reducible apply raiseSource_closed hP.toClosed
    | split

theorem setAnalog_wide (c : AnalogChannel) (a : Analog) {b : Block} (hb : P b) :
    P (setAnalog c a b) := by
  unfold setAnalog; try extract_lets
  repeat' first
    | with_reducible exact hb
    | with_reducible apply hP.sensors
    | (split <;> try extract_lets)

theorem deliver_wide (c : AnalogChannel) (d : Delivery) {b : Block} (hb : P b) :
    P (deliver c d b) := by
  unfold deliver
  repeat' first
    | with_reducible exact hb
    | with_reducible apply deliverCavity_wide hP
    | with_reducible apply deliverGenerator_wide hP
    | with_reducible apply deliverProbe_wide hP
    | with_reducible apply deliverMoisture_wide hP
    | split

theorem sampleChannel_wide (c : AnalogChannel) (s : Sample) {b : Block} (hb : P b) :
    P (sampleChannel c s b) := by
  unfold sampleChannel; try extract_lets
  repeat' first
    | with_reducible exact hb
    | with_reducible apply deliver_wide hP
    | with_reducible apply setAnalog_wide hP

theorem sampleProbes_wide (x : Samples) {b : Block} (hb : P b) :
    P (sampleProbes x b) := by
  unfold sampleProbes
  repeat' first
    | with_reducible exact hb
    | with_reducible refine Closed.ite ?_ ?_
    | with_reducible apply sampleChannel_wide hP

theorem takeSamples_wide (x : Samples) {b : Block} (hb : P b) :
    P (takeSamples x b) := by
  unfold takeSamples
  repeat' first
    | with_reducible exact hb
    | with_reducible apply sampleChannel_wide hP
    | with_reducible apply sampleProbes_wide hP

theorem countSettling_wide {b : Block} (hb : P b) :
    P (countSettling b) := by
  unfold countSettling; try extract_lets
  repeat' first
    | with_reducible exact hb
    | with_reducible refine Closed.ite ?_ ?_
    | with_reducible apply hP.life
    | with_reducible apply endStartUp_wide hP
    | (split <;> try extract_lets)

theorem sampling_wide (x : Samples) {b : Block} (hb : P b) :
    P (sampling x b) := by
  unfold sampling
  repeat' first
    | with_reducible exact hb
    | with_reducible apply countSettling_wide hP
    | with_reducible apply takeSamples_wide hP

theorem rawChange_wide (i : SwitchInput) (level : Bool) {b : Block} (hb : P b) :
    P (rawChange i level b) := by
  unfold rawChange; try extract_lets
  repeat' first
    | with_reducible exact hb
    | with_reducible refine Closed.ite ?_ ?_
    | with_reducible apply hP.switches

theorem setDebounced_wide (i : SwitchInput) (level : Bool) {b : Block} (hb : P b) :
    P (setDebounced i level b) := by
  unfold setDebounced
  repeat' first
    | with_reducible exact hb
    | with_reducible apply hP.switches

theorem debounced_wide (i : SwitchInput) (level : Bool) {settle change : Block → Block}
    (hs : ∀ b, P b → P (settle b)) (hc : ∀ b, P b → P (change b)) {b : Block} (hb : P b) :
    P (debounced i level settle change b) := by
  unfold debounced; extract_lets
  repeat' first
    | with_reducible exact hb
    | with_reducible refine Closed.ite ?_ ?_
    | exact hs _ (setDebounced_wide hP _ _ hb)
    | exact hc _ (setDebounced_wide hP _ _ hb)

theorem followDisagreement_wide {b : Block} (hb : P b) :
    P (followDisagreement b) := by
  unfold followDisagreement; try extract_lets
  repeat' first
    | with_reducible exact hb
    | with_reducible refine Closed.ite ?_ ?_
    | with_reducible apply hP.switches
    | with_reducible apply hP.toClosed.sourceCleared

theorem doorOpened_wide {b : Block} (hb : P b) :
    P (doorOpened b) := by
  unfold doorOpened; try extract_lets
  repeat' first
    | with_reducible exact hb
    | with_reducible apply hP.climateAny
    | with_reducible apply setInterlock_wide hP
    | with_reducible apply runDoorOpened_closed hP.toClosed
    | with_reducible apply putDoorReason_closed hP.toClosed

theorem doorClosed_wide {b : Block} (hb : P b) :
    P (doorClosed b) := by
  unfold doorClosed
  repeat' first
    | with_reducible exact hb
    | with_reducible apply runDoorClosed_closed hP.toClosed
    | with_reducible apply putDoorReason_closed hP.toClosed
    | with_reducible apply clearInterlock_wide hP

theorem contactChange_wide (wasOpen : Bool) {b : Block} (hb : P b) :
    P (contactChange wasOpen b) := by
  unfold contactChange; try extract_lets
  repeat' first
    | with_reducible exact hb
    | with_reducible refine Closed.ite ?_ ?_
    | with_reducible apply followDisagreement_wide hP
    | with_reducible apply wake_wide hP
    | with_reducible apply doorOpened_wide hP
    | with_reducible apply doorClosed_wide hP

theorem contactSettled_wide {b : Block} (hb : P b) :
    P (contactSettled b) := by
  unfold contactSettled
  repeat' first
    | with_reducible exact hb
    | with_reducible apply followInterlock_wide hP
    | with_reducible apply putDoorReason_closed hP.toClosed

theorem disagreementEnd_wide {b : Block} (hb : P b) :
    P (disagreementEnd b) := by
  unfold disagreementEnd; try extract_lets
  repeat' first
    | with_reducible exact hb
    | with_reducible refine Closed.ite ?_ ?_
    | with_reducible apply raiseSource_closed hP.toClosed
    | with_reducible apply hP.switches

theorem tankInserted_wide {b : Block} (hb : P b) : P (tankInserted b) := by
  unfold tankInserted
  extract_lets b1 b2
  have h1 : P b1 := hP.cleared _ _ (wake_wide hP _ hb)
  have h2 : P b2 := hP.channel _ _ _ (resume_inFlight _) (hP.channel _ _ _ (resume_inFlight _) h1)
  exact retryDescale_closed hP.toClosed (moveTankCycle_closed hP.toClosed _
    (retryWater_closed hP.toClosed h2))

theorem tankRemoved_wide {b : Block} (hb : P b) : P (tankRemoved b) := by
  unfold tankRemoved
  extract_lets b1
  have h1 : P b1 := wake_wide hP _ hb
  exact moveTankCycle_closed hP.toClosed _
    (hP.channel _ _ _ (pause_inFlight _) (hP.channel _ _ _ (pause_inFlight _) h1))

theorem mapProbes_wide (f : Analog → Analog) {b : Block} (hb : P b) : P (mapProbes f b) :=
  hP.sensors _ _ hb

theorem startProbes_wide {b : Block} (hb : P b) :
    P (startProbes b) := by
  unfold startProbes
  repeat' first
    | with_reducible exact hb
    | with_reducible apply mapProbes_wide hP

theorem probeUnplugged_wide {b : Block} (hb : P b) :
    P (probeUnplugged b) := by
  unfold probeUnplugged
  repeat' first
    | with_reducible exact hb
    | with_reducible apply hP.toClosed.sourceCleared
    | with_reducible apply mapProbes_wide hP
    | with_reducible apply wake_wide hP

theorem electrodeSettled_wide {b : Block} (hb : P b) :
    P (electrodeSettled b) := by
  unfold electrodeSettled; try extract_lets
  repeat' first
    | with_reducible exact hb
    | with_reducible apply followInterlock_wide hP
    | with_reducible apply hP.genAny

theorem electrodeChanged_wide {b : Block} (hb : P b) :
    P (electrodeChanged b) := by
  unfold electrodeChanged; try extract_lets
  repeat' first
    | with_reducible exact hb
    | with_reducible apply followLevelFault_wide hP
    | with_reducible apply levelChange_wide hP


/-! ### StoreCommands -/

theorem advanceClock_wide {b : Block} (hb : P b) :
    P (advanceClock b) := by
  unfold advanceClock; try extract_lets
  repeat' first
    | with_reducible exact hb
    | with_reducible apply hP.clock

theorem clockAdvance_wide {b : Block} (hb : P b) :
    P (clockAdvance b) := by
  unfold clockAdvance; try extract_lets
  repeat' first
    | with_reducible exact hb
    | with_reducible refine Closed.ite ?_ ?_
    | with_reducible apply advanceClock_wide hP
    | with_reducible apply finishEvent_wide hP
    | with_reducible apply startIfDue_wide hP

theorem takeClockSet_wide (t : ClockTime) {b : Block} (hb : P b) :
    P (takeClockSet t b) := by
  unfold takeClockSet
  repeat' first
    | with_reducible exact hb
    | with_reducible apply startIfDue_wide hP
    | with_reducible apply hP.toClosed.cleared
    | with_reducible apply hP.clock

theorem clockSetRequest_wide (p : Payload) {b : Block} (hb : P b) :
    P (clockSetRequest p b).after := by
  unfold clockSetRequest
  repeat' first
    | with_reducible exact hb
    | with_reducible refine Closed.ite ?_ ?_
    | with_reducible refine Wide.iteAnswer ?_ ?_
    | with_reducible apply refuse_wide hP
    | with_reducible apply answerOk_wide hP
    | with_reducible apply takeClockSet_wide hP

theorem clockReadRequest_wide (p : Payload) {b : Block} (hb : P b) :
    P (clockReadRequest p b).after := by
  unfold clockReadRequest
  repeat' first
    | with_reducible exact hb
    | with_reducible refine Closed.ite ?_ ?_
    | with_reducible refine Wide.iteAnswer ?_ ?_
    | with_reducible apply refuse_wide hP
    | with_reducible apply answerOk_wide hP

theorem applyKf_wide (new : Nat) {b : Block} (hb : P b) :
    P (applyKf new b) := by
  unfold applyKf; try extract_lets
  repeat' first
    | with_reducible exact hb
    | with_reducible refine Closed.ite ?_ ?_
    | with_reducible apply queueScale_closed hP.toClosed
    | with_reducible apply hP.genAny

theorem applyPrescale_wide (new : Nat) {b : Block} (hb : P b) : P (applyPrescale new b) := by
  unfold applyPrescale; split
  · exact hb
  · exact hP.channel _ _ _ rfl hb

theorem takeSettings_wide (v : Settings) {b : Block} (hb : P b) :
    P (takeSettings v b) := by
  unfold takeSettings
  repeat' first
    | with_reducible exact hb
    | with_reducible apply queueSettings_closed hP.toClosed
    | with_reducible apply hP.settings
    | with_reducible apply applyPrescale_wide hP
    | with_reducible apply applyKf_wide hP

theorem settingsWriteRequest_wide (p : Payload) {b : Block} (hb : P b) :
    P (settingsWriteRequest p b).after := by
  unfold settingsWriteRequest
  repeat' first
    | with_reducible exact hb
    | with_reducible refine Closed.ite ?_ ?_
    | with_reducible refine Wide.iteAnswer ?_ ?_
    | with_reducible apply refuse_wide hP
    | with_reducible apply answerOk_wide hP
    | with_reducible apply takeSettings_wide hP
    | split

theorem settingsReadRequest_wide (p : Payload) {b : Block} (hb : P b) :
    P (settingsReadRequest p b).after := by
  unfold settingsReadRequest
  repeat' first
    | with_reducible exact hb
    | with_reducible refine Closed.ite ?_ ?_
    | with_reducible refine Wide.iteAnswer ?_ ?_
    | with_reducible apply refuse_wide hP
    | with_reducible apply answerOk_wide hP

theorem startIfReleased_wide {b : Block} (hb : P b) :
    P (startIfReleased b) := by
  unfold startIfReleased
  repeat' first
    | with_reducible exact hb
    | with_reducible refine Closed.ite ?_ ?_
    | with_reducible apply warmStart_wide hP
    | split

theorem writeComplete_wide {b : Block} (hb : P b) : P (writeComplete b) := by
  unfold writeComplete; split
  · exact hb
  · extract_lets _ b1
    have h1 : P b1 := hP.committed _ _ hb
    split
    · exact startIfReleased_wide hP (hP.life _ _ h1)
    · exact hP.served _ h1

theorem stopLink_wide {b : Block} (hb : P b) :
    P (stopLink b) := by
  unfold stopLink; try extract_lets
  repeat' first
    | with_reducible exact hb
    | with_reducible apply hP.link

theorem stopTimers_wide {b : Block} (hb : P b) :
    P (stopTimers b) := by
  unfold stopTimers; try extract_lets
  repeat' first
    | with_reducible exact hb
    | with_reducible apply hP.climateAny
    | with_reducible apply hP.share

theorem loseMains_wide {b : Block} (hb : P b) :
    P (loseMains b) := by
  unfold loseMains; try extract_lets
  repeat' first
    | with_reducible exact hb
    | with_reducible refine Closed.ite ?_ ?_
    | with_reducible apply hP.life
    | with_reducible apply stopTimers_wide hP
    | with_reducible apply stopLink_wide hP
    | with_reducible apply shutDown_wide hP
    | with_reducible apply hP.served

theorem coldStartOrWait_wide (x : ColdInputs) {b : Block} (hb : P b) :
    P (coldStartOrWait x b) := by
  unfold coldStartOrWait; try extract_lets
  repeat' first
    | with_reducible exact hb
    | with_reducible refine Closed.ite ?_ ?_
    | with_reducible apply hP.life
    | with_reducible apply coldStart_wide hP

theorem crossingStart_wide {b : Block} (hb : P b) : P (crossingStart b) := by
  unfold crossingStart; split
  · exact hb
  · exact coldStartOrWait_wide hP _ hb

theorem zeroCrossing_wide {b : Block} (hb : P b) : P (zeroCrossing b) := by
  unfold zeroCrossing; split
  · split
    · exact crossingStart_wide hP hb
    · exact hb
  · exact event_wide hP (fun _ h => halfCycle_wide hP h) hb

theorem supplyUp_wide (x : ColdInputs) {b : Block} (hb : P b) :
    P (supplyUp x b) := by
  unfold supplyUp
  repeat' first
    | with_reducible exact hb
    | with_reducible refine Closed.ite ?_ ?_
    | with_reducible apply coldStartOrWait_wide hP

theorem restartStart_wide (x : StartInputs) {b : Block} (hb : P b) :
    P (restartStart x b) := by
  unfold restartStart
  repeat' first
    | with_reducible exact hb
    | with_reducible refine Closed.ite ?_ ?_
    | with_reducible apply warmStart_wide hP
    | with_reducible apply restartRequest_wide hP

theorem beginReset_wide {b : Block} (hb : P b) :
    P (beginReset b) := by
  unfold beginReset; try extract_lets
  repeat' first
    | with_reducible exact hb
    | with_reducible apply stopLink_wide hP
    | with_reducible apply shutDown_wide hP
    | with_reducible apply hP.served
    | with_reducible apply hP.life

theorem assertReset_wide {b : Block} (hb : P b) :
    P (assertReset b) := by
  unfold assertReset; try extract_lets
  repeat' first
    | with_reducible exact hb
    | with_reducible refine Closed.ite ?_ ?_
    | with_reducible apply hP.life
    | with_reducible apply beginReset_wide hP

theorem releaseReset_wide (x : StartInputs) {b : Block} (hb : P b) :
    P (releaseReset x b) := by
  unfold releaseReset; try extract_lets
  repeat' first
    | with_reducible exact hb
    | with_reducible refine Closed.ite ?_ ?_
    | with_reducible apply hP.life
    | with_reducible apply coldStart_wide hP
    | with_reducible apply warmStart_wide hP
    | (split <;> try extract_lets)


/-! ### LinkCommands -/

theorem identRequest_wide (p : Payload) {b : Block} (hb : P b) :
    P (identRequest p b).after := by
  unfold identRequest
  repeat' first
    | with_reducible exact hb
    | with_reducible refine Closed.ite ?_ ?_
    | with_reducible refine Wide.iteAnswer ?_ ?_
    | with_reducible apply refuse_wide hP
    | with_reducible apply answerOk_wide hP

theorem statusRequest_wide (p : Payload) {b : Block} (hb : P b) :
    P (statusRequest p b).after := by
  unfold statusRequest
  repeat' first
    | with_reducible exact hb
    | with_reducible refine Closed.ite ?_ ?_
    | with_reducible refine Wide.iteAnswer ?_ ?_
    | with_reducible apply refuse_wide hP
    | with_reducible apply answerOk_wide hP

theorem restartRequest_wide (p : Payload) {b : Block} (hb : P b) :
    P (restartRequest p b).after := by
  unfold restartRequest; try extract_lets
  repeat' first
    | with_reducible exact hb
    | with_reducible refine Closed.ite ?_ ?_
    | with_reducible refine Wide.iteAnswer ?_ ?_
    | with_reducible apply refuse_wide hP
    | with_reducible apply answerOk_wide hP
    | with_reducible apply hP.link

theorem standbyAnswer_wide {b : Block} (hb : P b) :
    P (standbyAnswer b).after := by
  unfold standbyAnswer
  repeat' first
    | with_reducible exact hb
    | with_reducible apply answerOk_wide hP

theorem standbyRequest_wide (p : Payload) {b : Block} (hb : P b) :
    P (standbyRequest p b).after := by
  unfold standbyRequest; try extract_lets
  repeat' first
    | with_reducible exact hb
    | with_reducible refine Closed.ite ?_ ?_
    | with_reducible refine Wide.iteAnswer ?_ ?_
    | with_reducible apply refuse_wide hP
    | with_reducible apply standbyAnswer_wide hP
    | with_reducible apply enterStandby_wide hP
    | with_reducible apply hP.life
    | (split <;> try extract_lets)

theorem unknownRequest_wide {b : Block} (hb : P b) :
    P (unknownRequest b).after := by
  unfold unknownRequest
  repeat' first
    | with_reducible exact hb
    | with_reducible apply refuse_wide hP

omit hP in
/-- What holds of every request of the catalogue and of the answer to an unknown kind holds of the
handler of any KIND. -/
theorem handlerOf_ind {Q : (Block → Answer) → Prop} (kind : Byte) (p : Payload)
    (hq : ∀ x ∈ catalogue, Q (x.2 p)) (hu : Q unknownRequest) : Q (handlerOf kind p) := by
  unfold handlerOf; split
  · exact hq _ (List.mem_of_find?_eq_some ‹_›)
  · exact hu

theorem handlerOf_wide (kind : Byte) (p : Payload) {b : Block} (hb : P b) :
    P (handlerOf kind p b).after := by
  refine handlerOf_ind (Q := fun f => P (f b).after) kind p ?_ (unknownRequest_wide hP hb)
  simp only [catalogue, List.forall_mem_cons, List.not_mem_nil, false_imp_iff, implies_true,
    and_true]
  exact ⟨identRequest_wide hP p hb,
    statusRequest_wide hP p hb,
    restartRequest_wide hP p hb,
    standbyRequest_wide hP p hb,
    climateSetRequest_wide hP p hb,
    climateOffRequest_wide hP p hb,
    budgetSetRequest_wide hP p hb,
    generatorDrainRequest_wide hP p hb,
    generatorClearRequest_wide hP p hb,
    descaleBeginRequest_wide hP p hb,
    descaleAbortRequest_wide hP p hb,
    recipeStoreRequest_wide hP p hb,
    recipeReadRequest_wide hP p hb,
    recipeEraseRequest_wide hP p hb,
    recipeListRequest_wide hP p hb,
    runStartRequest_wide hP p hb,
    runPauseRequest_wide hP p hb,
    runResumeRequest_wide hP p hb,
    runAdvanceRequest_wide hP p hb,
    runAbortRequest_wide hP p hb,
    attentionPeekRequest_wide hP p hb,
    attentionTakeRequest_wide hP p hb,
    attentionCloseRequest_wide hP p hb,
    attentionMaskRequest_wide hP p hb,
    reportTakeRequest_wide hP p hb,
    reportClearRequest_wide hP p hb,
    clockSetRequest_wide hP p hb,
    clockReadRequest_wide hP p hb,
    settingsWriteRequest_wide hP p hb,
    settingsReadRequest_wide hP p hb⟩

theorem otherByte_wide (x : Byte) {b : Block} (hb : P b) : P (otherByte x b) := by
  unfold otherByte
  repeat' first
    | with_reducible exact hb
    | with_reducible refine Closed.ite ?_ ?_
    | with_reducible apply hP.link
    | with_reducible apply dropFrame_wide hP
    | split

theorem lineByte_wide (x : Byte) {b : Block} (hb : P b) : P (lineByte x b) := by
  unfold lineByte
  split
  · exact hb
  · split
    · exact finishEvent_wide hP _ (hP.link _ _ (wake_wide hP _ hb))
    · split
      · exact request_wide hP _ (fun _ h => handlerOf_wide hP _ _ h) hb
      · exact finishEvent_wide hP _ (otherByte_wide hP _ hb)

theorem frameDropped_wide {b : Block} (hb : P b) : P (frameDropped b) := by
  unfold frameDropped; split
  · exact finishEvent_wide hP _ (dropFrame_wide hP (wake_wide hP _ hb))
  · exact hb

theorem dropInProgress_wide {b : Block} (hb : P b) :
    P (dropInProgress b) := by
  unfold dropInProgress
  repeat' first
    | with_reducible exact hb
    | with_reducible refine Closed.ite ?_ ?_
    | with_reducible apply dropFrame_wide hP

theorem lineDrop_wide {b : Block} (hb : P b) :
    P (lineDrop b) := by
  unfold lineDrop
  repeat' first
    | with_reducible exact hb
    | with_reducible refine Closed.ite ?_ ?_
    | with_reducible apply finishEvent_wide hP
    | with_reducible apply dropInProgress_wide hP

theorem badStopByte_wide {b : Block} (hb : P b) :
    P (badStopByte b) := by
  unfold badStopByte; try extract_lets
  repeat' first
    | with_reducible exact hb
    | with_reducible refine Closed.ite ?_ ?_
    | with_reducible apply wake_wide hP
    | with_reducible apply finishEvent_wide hP
    | with_reducible apply hP.link
    | with_reducible apply dropInProgress_wide hP

theorem beginRestart_wide {b : Block} (hb : P b) :
    P (beginRestart b) := by
  unfold beginRestart; try extract_lets
  repeat' first
    | with_reducible exact hb
    | with_reducible apply shutDown_wide hP
    | with_reducible apply hP.life

theorem replySent_wide {b : Block} (hb : P b) :
    P (replySent b) := by
  unfold replySent; try extract_lets
  repeat' first
    | with_reducible exact hb
    | with_reducible refine Closed.ite ?_ ?_
    | with_reducible apply hP.link
    | with_reducible apply beginRestart_wide hP

theorem addSilent_wide {b : Block} (hb : P b) :
    P (addSilent b) := by
  unfold addSilent
  repeat' first
    | with_reducible exact hb
    | with_reducible refine Closed.ite ?_ ?_
    | with_reducible apply putHoldSilent_closed hP.toClosed
    | with_reducible apply putSilentReason_closed hP.toClosed

theorem silenceMark_wide {b : Block} (hb : P b) :
    P (silenceMark b) := by
  unfold silenceMark
  repeat' first
    | with_reducible exact hb
    | with_reducible refine Closed.ite ?_ ?_
    | with_reducible apply addSilent_wide hP
    | with_reducible apply hP.silence

theorem giveUp_wide {b : Block} (hb : P b) :
    P (giveUp b) := by
  unfold giveUp
  repeat' first
    | with_reducible exact hb
    | with_reducible refine Closed.ite ?_ ?_
    | with_reducible apply endRun_closed hP.toClosed
    | with_reducible apply enterOff_closed hP.toClosed

theorem silenceEnd_wide {b : Block} (hb : P b) :
    P (silenceEnd b) := by
  unfold silenceEnd
  repeat' first
    | with_reducible exact hb
    | with_reducible refine Closed.ite ?_ ?_
    | with_reducible apply hP.silence
    | with_reducible apply finishEvent_wide hP
    | with_reducible apply giveUp_wide hP

end Sys2Proof.Machine
end

