-- ==== Sys2Proof/Tests/Slice0.lean ====
section
/-! SUPPORT. The model's own tests: ill-formed commands refused, the manual's worked examples, and for
each statement states and operands that meet its hypotheses. -/

namespace Sys2Proof.Tests

open Sys2Proof.Machine

/-! ### Helpers -/

/-- The state a command leaves; the state itself where it stops. -/
def after (c : Instr) (s : State) : State :=
  match exec c s with
  | .next t => t
  | .fault _ | .refused _ => s

/-- A part past its start-up, its door open, its tank out, its vessel dry. -/
def ready : State := { State.reset with life := { State.reset.life with settling := none } }

/-- A switch input that reads a settled level. -/
def settled (v : Bool) : Switch := { raw := v, deb := v, timer := none, unread := false }

/-- A switch input whose raw level has held one level for 50 ms, the debounced state still the other. -/
def turning (v : Bool) : Switch := { raw := v, deb := !v, timer := none, unread := false }

/-- A valid channel that reads one value. -/
def steady (v : Int) : Analog :=
  { validity := .valid, run := 0, last := some v, window := [v, v, v, v], taken := 4 }

/-- A part at work with its door closed, its tank in, its cavity read. -/
def oven : State :=
  { ready with
    switches :=
      { ready.switches with
        contactA := settled false, contactB := settled false, tank := settled true }
    sensors := { ready.sensors with cavity := steady 1680, generator := steady 900 } }

/-- The oven baking at 180.0 °C. -/
def baking : State :=
  { oven with
    climate :=
      { oven.climate with
        state := .active, ts := 1800, integral := 4000, u := 500, periodTimer := true } }

/-- A step of 900 s that bakes. -/
def bakeStep : Step :=
  { mode := .cook .fanBake, setpoint := 2200, moisture := 50, fan := 3, bias := .dflt
    endKind := .time, limit := 900, coreTarget := none, huTarget := none, huBase := none
    prompt := .insertFood, preheat := true, doorCycle := false }

/-- The step by core temperature of the manual's roast. -/
def coreStep : Step :=
  { bakeStep with
    mode := .cook .combi, setpoint := 1800, moisture := 40, endKind := .core, limit := 5400
    coreTarget := some 750, prompt := .none, preheat := false }

/-- A rest of 600 s. -/
def restStep : Step :=
  { bakeStep with
    mode := .rest, setpoint := 300, limit := 600, prompt := .removeFood, preheat := false }

/-- The manual's roast. -/
def roast : Recipe :=
  { name := [0x52#8, 0x6F#8, 0x61#8, 0x73#8, 0x74#8]
    steps := [bakeStep, coreStep, restStep], keepLamp := false }

/-- The oven with the roast in slot 7 at write count 3, its clock at day 412, 10:00:00, run id 17. -/
def stocked : State :=
  { oven with
    clock := { time := ⟨412, 36000⟩, valid := true }
    runCounter := 17
    store := { oven.store with slots := oven.store.slots.set 7 ⟨some roast, 3⟩ } }

/-- A run of the roast in a step and a phase. -/
def running (i : Nat) (ph : StepPhase) : State :=
  { stocked with
    run :=
      { Run.cleared with
        state := .running, recipe := some roast, slot := some 7, writeCount := 3, runId := 18
        stepIndex := i, phase := some ph, stepTimer := true } }

/-- A procedure in a phase. -/
def procedure (ph : DescalePhase) : State :=
  { oven with
    descale := { oven.descale with kept := { DescaleRec.initial with phase := ph } }
    gen := { oven.gen with state := .descale } }

/-- An output stage with an empty interlock set. -/
def clear : LoadOut := LoadOut.initial.unlock .door

/-- An entry of a kind in service, alone. -/
def serving (k : AttnKind) (s : State) : State :=
  { s with attn := { Attn.empty with entries := [⟨k, .inService, none, .none⟩], chain := [k] } }

/-- A reply that is owed. -/
def owing (s : State) : State :=
  { s with link := { s.link with owed := some ⟨0x82#8, [0x00#8]⟩ } }

/-- A part in standby. -/
def asleep : State := { ready with life := { ready.life with power := .standby } }

/-- The RUN START of slot 7 by ready time, day 412, 18:30:00. -/
def readyByPayload : Payload := [7#8, 2#8, 0x01#8, 0x9C#8, 0x01#8, 0x04#8, 0x28#8]

/-! ### Ill-formed commands -/

theorem test_wf_payload_too_long : (Instr.status (List.replicate 233 0#8)).wf = false := by decide +kernel

theorem test_wf_kind_of_the_catalogue : (Instr.unknownKind 0x02#8 []).wf = false := by decide

theorem test_wf_code_above_4095 :
    (Instr.samplingExpiry ⟨.code 4096, .out, .out, .out, .out, .out⟩).wf = false := by decide

theorem test_wf_value_out_of_range :
    (Instr.samplingExpiry ⟨.out, .out, .out, .out, .out, .value 101⟩).wf = false := by decide

theorem test_wf_record_failed_twice :
    (Instr.resetLineRelease ⟨false, [.scale, .scale]⟩).wf = false := by decide

theorem test_wf_sound : (Instr.climateSet [0#8, 7#8, 8#8, 50#8, 3#8, 0#8]).wf = true := by decide

/-! ### The manual's worked examples -/

/-- 11.1, a STATUS request: 5A 01 02 0E 7C. -/
theorem test_status_frame : frameBytes 0x02#8 [] = [0x5A#8, 0x01#8, 0x02#8, 0x0E#8, 0x7C#8] := by
  decide +kernel

/-- 1.5, approaching 180.0 °C: u = 456 and the ring asks 912 W. -/
theorem test_control_approach :
    (after .controlPeriodExpiry baking).climate.u = 456 ∧
      (after .controlPeriodExpiry baking).climate.integral = 4120 ∧
      (after .controlPeriodExpiry baking).share.requests.ring = ⟨912, 2⟩ := by decide +kernel

/-- 1.5: −120 / 16 = −7.5 is carried as −7. -/
theorem test_truncation_toward_zero : (40 * (-3) : Int).tdiv 16 = -7 := by decide

/-- 1.5, TOP_BOTTOM with u = 456: 400 W and 205 W. -/
theorem test_shares : elementWatts 456 55 1600 = 400 ∧ elementWatts 456 45 1000 = 205 := by decide

/-- 2.4, 2290 W asked of 2200 W at one level: 1248 W and 951 W. -/
theorem test_walk_cut :
    allocate 2300 100 7 ⟨⟨1300, 2⟩, ⟨0, 2⟩, ⟨0, 2⟩, ⟨990, 2⟩⟩ = ⟨1248, 0, 0, 951⟩ := by decide

/-- 2.4, the same requests with room to spare. -/
theorem test_walk_full :
    allocate 3680 100 7 ⟨⟨1300, 2⟩, ⟨0, 2⟩, ⟨0, 2⟩, ⟨990, 2⟩⟩ = ⟨1300, 0, 0, 990⟩ := by decide

/-- 2.5, the second half-cycle of a grant of 1248 W on a 2000 W element is fired and leaves 496. -/
theorem test_half_cycle :
    ((clear.halfCycle true 2000 1248).halfCycle true 2000 1248).acc = 496 ∧
      ((clear.halfCycle true 2000 1248).halfCycle true 2000 1248).firing = true := by decide

/-- 3.5, the three fills of 541, 541 and 539 pulses. -/
theorem test_account_over_three_fills :
    (((⟨29990, 0, 0⟩ : ScaleRec).addFill .initial 541).addFill .initial 541).addFill .initial 539 =
      ⟨30152, 1000, 0⟩ := by decide

/-- 4.3, the expiry that completes the run-on ends the drain with LEVEL. -/
theorem test_run_on_complete :
    pacingEnd .drain
        { ChannelRec.initial with
          mode := .sourceSync, strokes := 95, runOn := some 25, limit := 600 } =
      some .level := by decide

/-- 6.3, a REST step whose time limit is 0 is refused by its limit. -/
theorem test_rest_without_limit :
    readRecipe
        (recipeBytes 7 { roast with steps := [bakeStep, coreStep, { restStep with limit := 0 }] }) =
      .invalid 3 .timeLimit := by decide +kernel

/-- 6.4, a store into slot 7 at write count 2 is given count 3. -/
theorem test_store_count :
    (replied 0x30#8 .ok (u8 7 ++ u16 (nextCount 2)) ready.toBlock).link.owed =
      some ⟨0xB0#8, [0#8, 7#8, 0#8, 3#8]⟩ := by decide

/-- 7.2, the roast ready at 18:30:00: run 18 is PENDING until 16:27:00 = 59 220 s. -/
theorem test_ready_by :
    (after (.runStart readyByPayload) stocked).run.startTime = some ⟨412, 59220⟩ ∧
      (after (.runStart readyByPayload) stocked).run.runId = 18 := by decide +kernel

/-- 7.2, the nominal duration of the roast is 7380 s. -/
theorem test_nominal_duration : nominalDuration .full roast = 7380 := by decide

/-- 7.3, 64.5 °C over a base of 60.0 °C adds 45 a second. -/
theorem test_heat_added :
    heatAdded { coreStep with endKind := .heatUnits, huBase := some 600 } (some 645) = 45 := by decide

/-- 8.3, the masks of CLOCK_INVALID and DESCALE_DUE are bits 8 and 7 of the three bytes. -/
theorem test_mask_bytes : maskBytes [.clockInvalid, .descaleDue] = [0x00#8, 0x01#8, 0x80#8] := by
  decide

/-- 9.1, the fourth out-of-span sample in a row makes the channel INVALID with an empty window. -/
theorem test_channel_drops_out :
    ((steady 1800).sampleValid none).1.run = 1 ∧
      ({ steady 1800 with run := 3 }.sampleValid none).1.validity = .invalid := by decide

/-- 10.4, at a mains loss a SCALE write is taken before the CHECKPOINT, the slots are left. -/
theorem test_flush_order :
    (nextWrite (flushServes .mains)
        [.settings .initial, .slot 9 .empty, .checkpoint none, .scale ⟨0, 0, 0⟩]).map Write.record =
      some .scale ∧
    nextWrite (flushServes .mains) [.settings .initial, .slot 9 .empty] = none := by decide

/-! ### Every block's frames and rounds, at their corners -/

/-- 10.1, day 65 535 at 86 399 s is followed by day 0, second 0. -/
theorem test_clock_wraps : (⟨65535, 86399⟩ : ClockTime).next = ⟨0, 0⟩ := by decide

/-- 4.4, a prescale of 3 becomes 2, and one above 8 becomes 8. -/
theorem test_prescale : clampPrescale 3 = 2 ∧ clampPrescale 9 = 8 ∧ clampPrescale 0 = 1 := by decide

/-- 3.1, a dry middle electrode under a wet one reads LOW, and is inconsistent. -/
theorem test_level :
    derivedLevel { ready.switches with eLow := settled true, eHigh := settled true } = .low ∧
      electrodesInconsistent { ready.switches with eLow := settled true, eHigh := settled true } =
        true := by decide

/-- 8.3, the second of two equal priorities is taken after the first closes: PEEK keeps raise order. -/
theorem test_peek_order :
    ({ Attn.empty with
        entries :=
          [⟨.descaleDue, .pending, none, .none⟩, ⟨.tankEmpty, .pending, none, .none⟩,
           ⟨.tankMissing, .pending, none, .none⟩] } : Attn).peek.map Entry.kind =
      [.tankEmpty, .tankMissing, .descaleDue] := by decide

/-! ### States and operands that meet the statements' hypotheses -/

theorem witness_StepRunsTheFrontCommand : State.reset.pending = [] := by decide

theorem witness_QueuesStaySound :
    QueuesSound oven.toBlock ∧ ∃ t, step (oven.withPending [.tankRemoval]) = .next t :=
  ⟨⟨by unfold ReportsBounded; decide, by unfold WritesDistinct; decide, by unfold OneTransfer; decide,
    by unfold StoreAtRest StoreServed; decide, ⟨by decide, by unfold NoteInFlight; decide, by decide⟩,
    ⟨by decide, by decide, by decide⟩⟩, _, rfl⟩

theorem witness_AttentionStaysOrdered :
    Attn.empty.Sound ∧ ∃ t, step { oven with attn := .empty, pending := [.tankRemoval] } = .next t :=
  ⟨⟨by decide, by simp [Attn.empty], by decide⟩, _, rfl⟩

theorem witness_OutputStaysSafe :
    LifeSound ready.toBlock ∧ OutputSafe ready.toBlock ∧
      ∃ t, step (ready.withPending [.zeroCrossing]) = .next t :=
  ⟨⟨by decide, by unfold NoteInFlight; decide, by decide⟩,
   ⟨fun l => by cases l <;> decide, fun l => by cases l <;> decide⟩, _, rfl⟩

theorem witness_SteamStaysLocked :
    LifeSound (procedure .soak).toBlock ∧ SteamSafe (procedure .soak).toBlock ∧
      ∃ t, step ((procedure .soak).withPending [.soakTimerExpiry]) = .next t :=
  ⟨⟨by decide, by unfold NoteInFlight; decide, by decide⟩,
   ⟨by decide, fun _ _ => .inl rfl, by unfold DescaleRec.Sound; decide,
    by unfold DescaleRec.Sound; decide, fun _ h => absurd h (by simp [procedure, oven, ready,
      State.reset, Block.reset, Store.initial])⟩, _, rfl⟩

theorem witness_SettingsStayInRange :
    SettingsSound ready.toBlock ∧ ∃ t, step (ready.withPending [.settingsRead []]) = .next t :=
  ⟨⟨⟨by decide, by decide, by decide, by decide, by decide, by decide, by decide⟩, by decide,
    ⟨by decide, by decide, by decide, by decide, by decide, by decide, by decide⟩,
    fun _ h => absurd h (by simp [ready, State.reset, Block.reset, Store.initial])⟩, _, rfl⟩

/-- The receiver in one of its states, with a LEN of 1 kept and some bytes collected (R187). -/
def receiver (rx : RxState) (buf check : List Byte) : State :=
  { ready with link := { ready.link with rx := rx, len := 1, buf := buf, check := check } }

/-- 11.1: the CHECK of a STATUS request is 0x0E 0x7C. -/
theorem witness_byteReceived :
    (let x := receiver .length [] []; receiving x.toBlock = true ∧ x.life.power ≠ .standby ∧
        x.link.rx = .length ∧ 1 ≤ (233#8).toNat ∧ (233#8).toNat ≤ 233 ∧ 233 < (234#8).toNat ∧
        (0#8).toNat = 0) ∧
      (let x := receiver .body [] []; receiving x.toBlock = true ∧ x.link.rx = .body) ∧
      (let x := receiver .check [0x02#8] []; receiving x.toBlock = true ∧ x.link.rx = .check ∧
        x.link.check = []) ∧
      (let x := receiver .check [0x02#8] [0x0E#8]; receiving x.toBlock = true ∧
        x.link.rx = .check ∧ x.link.check = [0x0E#8] ∧ x.link.buf = [0x02#8] ∧
        [0x0E#8, 0x7C#8] = checkBytes (u8 x.link.len ++ x.link.buf) ∧
        [0x0E#8, 0x7D#8] ≠ checkBytes (u8 x.link.len ++ x.link.buf)) := by
  decide +kernel

theorem witness_FrameBytesMakeTheRequest :
    (List.replicate 232 0x5A#8).length ≤ 232 ∧ receiving ready.toBlock = true ∧
      ready.life.power ≠ .standby ∧ ready.link.rx = .hunt ∧ ([] : Payload).length ≤ 232 ∧
      [0x0E#8, 0x7D#8] ≠ checkBytes (u8 (([] : Payload).length + 1) ++ [0x02#8] ++ []) := by
  decide +kernel

theorem witness_step_sound : bakeStep.Sound ∧ coreStep.Sound ∧ restStep.Sound := by
  refine ⟨?_, ?_, ?_⟩ <;> constructor <;> first | decide | (unfold FitsSigned; decide)

theorem witness_RecipesAndSettingsSurviveTheLink :
    roast.Sound ∧ (defaultSettings .a10).InRange ∧ 1200 ≤ (defaultSettings .a10).budget ∧
      (defaultSettings .a10).budget ≤ budgetMax .a10 :=
  ⟨⟨by decide, by decide, by decide, by simpa [roast] using witness_step_sound⟩,
    ⟨by decide, by decide, by decide, by decide, by decide, by decide, by decide⟩, by decide, by decide⟩

theorem witness_Answers : Answers ready ∧ Answers oven ∧ Answers stocked ∧ Answers asleep :=
  ⟨⟨rfl, rfl⟩, ⟨rfl, rfl⟩, ⟨rfl, rfl⟩, ⟨rfl, rfl⟩⟩

theorem witness_RefusedRequestOnlyAnswers :
    Answers oven ∧ (handlerOf 0x41#8 [] (heard oven.toBlock)).status ≠ .ok ∧
      0x10#8 ∈ catalogueKinds ∧ lengthFits 0x10#8 [0#8] = false ∧ 0x05#8 ∉ catalogueKinds :=
  ⟨⟨rfl, rfl⟩, by decide, by decide, by decide, by decide⟩

theorem witness_EveryRequestOwesItsReply : Answers oven := ⟨rfl, rfl⟩

theorem witness_FrameDroppedWhileReplyOwed :
    receiving (owing asleep).toBlock = true ∧ (owing asleep).link.owed.isSome = true := by decide

theorem witness_IdentAnswers : Answers asleep ∧ ([0#8] : Payload) ≠ [] := ⟨⟨rfl, rfl⟩, by decide⟩

theorem witness_StatusAnswers : Answers asleep := ⟨rfl, rfl⟩

theorem witness_LineFaultsDropTheFrame :
    receiving State.reset.toBlock = false ∧ receiving ready.toBlock = true ∧ ready.life.power ≠ .standby := by decide

/-- A RESTART whose reply is owed. -/
def restarting : State := { owing oven with link := { (owing oven).link with restart := true } }

theorem witness_ReplySentFreesTheLink :
    Answers oven ∧ live oven.toBlock = true ∧ oven.link.owed = none ∧
      (live (owing oven).toBlock = true ∧ (owing oven).link.owed.isSome = true ∧
        (owing oven).link.restart = false) ∧
      live restarting.toBlock = true ∧ restarting.link.owed.isSome = true ∧
        restarting.link.restart = true :=
  ⟨⟨rfl, rfl⟩, by decide, by decide, by decide, by decide, by decide, by decide⟩

theorem witness_StandbyIsEnteredAndLeft :
    (receiving asleep.toBlock = true ∧ asleep.life.power = .standby) ∧ (Answers baking ∧ standbyAllowed (heard baking.toBlock) = false) ∧
      (Answers oven ∧ standbyAllowed (heard oven.toBlock) = true ∧ oven.gen.state = .idle) ∧
      Answers { oven with gen := { oven.gen with state := .cooling } } ∧
        standbyAllowed
          (heard { oven with gen := { oven.gen with state := .cooling } }.toBlock) = true :=
  ⟨by decide, ⟨⟨rfl, rfl⟩, by decide⟩, ⟨⟨rfl, rfl⟩, by decide, rfl⟩, ⟨rfl, rfl⟩, by decide⟩

/-- The baking oven, 5 s of silence at hand. -/
def silent : State := { baking with silence := { running := true, ms := 4999, mark := false } }

/-- A silent run. -/
def silentRun : State :=
  { running 1 .active with silence := { running := true, ms := 4999, mark := false } }

/-- A run of the roast in its ACTIVE phase, the climate ACTIVE and asking power, the generator READY with
a demand. -/
def roasting (i : Nat) : State :=
  let s := running i .active
  { s with
    climate := baking.climate
    share := { s.share with requests := ⟨⟨1000, 2⟩, ⟨500, 2⟩, ⟨500, 2⟩, ⟨990, 2⟩⟩ }
    gen := { s.gen with state := .ready, demand := 450 } }

/-- A silent run whose climate heats. -/
def silentRoast : State :=
  { roasting 1 with silence := { running := true, ms := 4999, mark := false } }

theorem witness_SilenceActs :
    (live silent.toBlock = true ∧ silent.silence.running = true ∧ silent.silence.mark = false ∧
        silent.run.state = .idle ∧ silent.climate.state = .active) ∧
      (live silentRun.toBlock = true ∧ silentRun.silence.running = true ∧
        silentRun.silence.mark = false ∧ silentRun.run.state ≠ .idle) ∧
      (live silentRoast.toBlock = true ∧ silentRoast.silence.running = true ∧
        silentRoast.silence.mark = false ∧ silentRoast.run.state ≠ .idle ∧
        silentRoast.run.hold = HoldSet.empty ∧ inRest silentRoast.toBlock = false ∧
        silentRoast.climate.state = .active) ∧
      inRest { silentRun.toBlock with run := { silentRun.run with stepIndex := 3 } } = true ∧
      ((procedure .soak).run.state = .idle ∧ (procedure .soak).climate.state = .off) ∧
      ({ silent with silence := ⟨true, 5000, true⟩ } : State).silence.ms ≤ 5000 := by decide

theorem witness_HeardFrameRemovesSilence :
    oven.run.hold.silent = false ∧ oven.climate.reasons.silent = false ∧
      oven.life.power ≠ .standby := by decide

theorem witness_ClimateSetIsTaken :
    (Answers oven ∧ (climateFields [7#8, 0#8, 0#8, 0#8, 0#8, 0#8]) = none) ∧
      Answers baking ∧ [0#8, 7#8, 8#8, 50#8, 3#8, 0#8].length = 6 ∧
      climateFields [0#8, 7#8, 8#8, 50#8, 3#8, 0#8] = some ⟨.fanBake, 1800, 50, 3, .dflt⟩ ∧
      baking.descale.kept.phase = .idle ∧ baking.run.state = .idle ∧
      baking.climate.overtemp = false ∧ baking.climate.state ≠ .fault :=
  ⟨⟨⟨rfl, rfl⟩, by decide⟩, ⟨rfl, rfl⟩, by decide, by decide, by decide, by decide, by decide,
    by decide⟩

/-- An oven in FAULT whose cavity has cooled to 200.0 °C. -/
def cooled : State :=
  { oven with
    climate := { oven.climate with state := .fault, overtemp := true }
    sensors := { oven.sensors with cavity := steady 2000 } }

theorem witness_ClimateOffIsTaken :
    (Answers oven ∧ oven.climate.overtemp = false ∧ oven.descale.kept.phase = .idle ∧
        oven.run.state = .idle ∧ oven.climate.state = .off) ∧
      (Answers baking ∧ baking.climate.overtemp = false ∧ baking.climate.state = .active) ∧
      (Answers cooled ∧ cooled.climate.overtemp = true ∧ cavityCooled cooled.toBlock = true) ∧
      cavityCooled { cooled with
        sensors := { cooled.sensors with cavity := steady 2001 } }.toBlock = false ∧
      (Answers (procedure .soak) ∧ (procedure .soak).climate.overtemp = false ∧
        (procedure .soak).descale.kept.phase ≠ .idle) ∧
      Answers (running 1 .active) ∧ (running 1 .active).climate.overtemp = false ∧
      (running 1 .active).descale.kept.phase = .idle ∧ (running 1 .active).run.state ≠ .idle :=
  ⟨⟨⟨rfl, rfl⟩, by decide, by decide, by decide, by decide⟩, ⟨⟨rfl, rfl⟩, by decide, by decide⟩,
    ⟨⟨rfl, rfl⟩, by decide, by decide⟩, by decide, ⟨⟨rfl, rfl⟩, by decide, by decide⟩, ⟨rfl, rfl⟩,
    by decide, by decide, by decide⟩

theorem witness_ControlPeriodComputes :
    live baking.toBlock = true ∧ baking.climate.periodTimer = true ∧
      baking.climate.state = .active ∧ measuredTm baking.toBlock = some 1680 ∧
      ¬ (oven.climate.periodTimer = true ∧ oven.climate.state = .active) := by decide

theorem witness_FlapTravelEnds :
    live oven.toBlock = true ∧ oven.climate.flap = .movingOpen ∧ oven.life.power ≠ .standby ∧
      asleep.life.power = .standby := by decide

/-- The oven with its windows running. -/
def windowed : State := { baking with share := { baking.share with windowTimer := true } }

theorem witness_WindowTakesGrants :
    live windowed.toBlock = true ∧ windowed.share.windowTimer = true ∧
      baking.share.windowTimer = false := by decide

theorem witness_ZeroCrossingFires :
    live windowed.toBlock = true ∧ clear.locks.isClear = true ∧
      LoadOut.initial.locks.isClear = false := by decide

theorem witness_GrantsFitTheBudgetAndFireExactly :
    ((2200 : Nat) + 0 + 0 + 0 ≤ 2300 - 100 ∧ (7 : Nat) ≤ 7 ∧ (7 : Nat) < 8) ∧
      ((0 : Nat) + 1000 ≤ 2300 - 100 ∧ (1000 ≤ 2300 - 100 ∧ 2300 - 100 < (1000 : Nat) + 2000) ∧
        2300 - 100 < (3000 : Nat) ∧
        allocate 2300 100 7 ⟨⟨1000, 0⟩, ⟨1500, 1⟩, ⟨500, 1⟩, ⟨500, 2⟩⟩ = ⟨1000, 900, 300, 0⟩ ∧
        allocate 1100 100 7 ⟨⟨1000, 0⟩, ⟨1500, 1⟩, ⟨500, 1⟩, ⟨500, 2⟩⟩ = ⟨1000, 0, 0, 0⟩) ∧
      (0 : Nat) < 2000 ∧ (1248 : Nat) ≤ 2000 ∧ clear.locks.isClear = true ∧ clear.acc = 0 ∧
      clear.fired = 0 := by decide

theorem witness_MainsLossSwitchesOff : live baking.toBlock = true := by decide

/-- A generator in FAULT whose wall has cooled to 110.0 °C. -/
def dried : State :=
  { oven with
    gen := { oven.gen with state := .fault, dryFire := true }
    sensors := { oven.sensors with generator := steady 1100 } }

theorem witness_GeneratorCommandsAreTaken :
    (Answers oven ∧ oven.gen.state = .idle ∧ (procedure .soak).gen.state ≠ .idle ∧
        (procedure .soak).gen.state ≠ .waitWater) ∧
      Answers dried ∧ dried.gen.state = .fault ∧ wallCooled dried.toBlock = true ∧
      oven.gen.state ≠ .fault :=
  ⟨⟨⟨rfl, rfl⟩, by decide, by decide, by decide⟩, ⟨rfl, rfl⟩, by decide, by decide, by decide⟩

/-- The oven with a generator in a state, its electrodes reading a level from DRY to NORMAL. -/
def steamer (g : GenState) (l : Level) : State :=
  { oven with
    gen := { oven.gen with state := g, level := l }
    switches :=
      { oven.switches with
        eLow := settled (decide (l ≠ .dry)), eNormal := settled (decide (l = .normal))
        eHigh := settled false } }

/-- The tank just pushed in, its raw level held for 50 ms. -/
def refitted (s : State) : State :=
  { s with switches := { s.switches with tank := turning true } }

/-- Steam wanted. -/
def steamy (s : State) : State := { s with climate := { s.climate with steamWanted := true } }

/-- A CLIMATE SET of STEAM at 100.0 °C. -/
def steamPayload : Payload := [5#8, 3#8, 0xE8#8, 50#8, 3#8, 0#8]

/-- An account at the steam lock. -/
def scaled (s : State) : State :=
  { s with gen := { s.gen with account := ⟨lockThreshold .full, 0, 0⟩ } }

theorem witness_GeneratorEntersService :
    (live (refitted (steamer .waitWater .low)).toBlock = true ∧
        (refitted (steamer .waitWater .low)).life.settling = none ∧
        (refitted (steamer .waitWater .low)).gen.state = .waitWater ∧
        (refitted (steamer .waitWater .low)).switches.tank.deb = false ∧
        (refitted (steamer .waitWater .low)).switches.tank.raw = true) ∧
      (Answers (serving .tankEmpty (steamer .waitWater .normal)) ∧
        ((serving .tankEmpty (steamer .waitWater .normal)).attn.find .tankEmpty).any
          (fun e => decide (e.state ≠ .acknowledged)) = true ∧
        (serving .tankEmpty (steamer .waitWater .normal)).attn.chain.getLast? =
          some .tankEmpty) ∧
      (Answers (steamy dried) ∧ (steamy dried).gen.state = .fault ∧
        wallCooled (steamy dried).toBlock = true ∧ (steamy dried).descale.kept.phase = .idle ∧
        (steamy dried).climate.steamWanted = true) ∧
      (let x : State :=
          { steamy (steamer .idle .dry) with
            gen := { oven.gen with fillRefused := true }
            switches := { oven.switches with eLow := turning true } };
        live x.toBlock = true ∧ x.gen.state = .idle ∧ x.gen.fillRefused = true ∧
        x.climate.steamWanted = true ∧ (switchOf x.switches (.electrode .low)).deb ≠ true ∧
        (switchOf x.switches (.electrode .low)).raw = true) ∧
      (Answers (steamer .cooling .dry) ∧ steamPayload.length = 6 ∧
        climateFields steamPayload = some ⟨.steam, 1000, 50, 3, .dflt⟩ ∧
        Mode.steam.isSteam = true ∧ (steamer .cooling .dry).run.state = .idle ∧
        (steamer .cooling .dry).climate.overtemp = false ∧
        (steamer .cooling .dry).climate.state = .off ∧
        (steamer .cooling .dry).climate.steamWanted = false) ∧
      lockThreshold .full ≤ (scaled oven).gen.account.scale ∧
      ¬ lockThreshold .full ≤ oven.gen.account.scale ∧
      oven.sensors.generator.validity = .valid ∧ State.reset.sensors.generator.validity ≠ .valid :=
  ⟨by decide, ⟨⟨rfl, rfl⟩, by decide⟩, ⟨⟨rfl, rfl⟩, by decide⟩, by decide, ⟨⟨rfl, rfl⟩, by decide⟩,
    by decide⟩

/-- A service fill in flight. -/
def serviceFilling (g : GenState) (c : ChannelState) (strokes noFlow : Nat) : State :=
  { steamer g .low with
    fill :=
      { ChannelRec.initial with
        state := c, owner := .generator, mode := .destSync, target := some .normal
        limit := 400, strokes := strokes, noFlow := noFlow } }

theorem witness_GeneratorKeepsItsWater :
    (live (serviceFilling .filling .active 20 20).toBlock = true ∧
        (serviceFilling .filling .active 20 20).gen.state = .filling ∧
        (serviceFilling .filling .active 20 20).fill.owner = .generator ∧
        (serviceFilling .filling .active 20 20).fill.noFlow = 20) ∧
      ((serviceFilling .heating .active 400 19).fill.noFlow ≠ 20 ∧
        (serviceFilling .heating .active 400 19).fill.mode = .destSync ∧
        (serviceFilling .heating .active 400 19).fill.strokes =
          (serviceFilling .heating .active 400 19).fill.limit) ∧
      (serviceFilling .ready .paused 3 3).fill.state = .paused ∧
      (let x : State :=
          { serviceFilling .ready .active 3 0 with
            switches := { (steamer .ready .low).switches with eNormal := turning true } };
        (switchOf x.switches (.electrode .normal)).deb ≠ true ∧
        (switchOf x.switches (.electrode .normal)).raw = true ∧
        (after (.electrodeChange .normal true) x).gen.level = .normal) ∧
      (let x : State :=
          { steamer .ready .low with
            switches := { (steamer .ready .low).switches with eLow := turning false } };
        x.fill.state = .idle ∧ x.drain.inFlight = false ∧
        (after (.electrodeChange .low false) x).gen.level = .dry) := by decide

/-- The samples of a wall, the cavity at 168.0 °C. -/
def wallSamples (v : Sample) : Samples := ⟨.value 1680, v, .out, .out, .out, .out⟩

theorem witness_GeneratorFollowsTheWall :
    (live (steamer .heating .normal).toBlock = true ∧
        (steamer .heating .normal).life.settling = none ∧
        (∀ v, inSpan .cavity (wallSamples (.value 980)).cavity = some v → v < 3000) ∧
        inSpan .generator (wallSamples (.value 980)).generator = some 980 ∧
        (steamer .heating .normal).sensors.generator.validity = .valid) ∧
      (inSpan .generator (wallSamples .out).generator = none ∧
        (3 : Nat) ≤ ({ steady 900 with run := 3 } : Analog).run) ∧
      (({ steady 900 with validity := .invalid, run := 3 } : Analog).validity = .invalid ∧
        (steamy (steamer .idle .low)).climate.steamWanted = true) := by decide

/-- The oven steaming by the link. -/
def steaming (g : GenState) : State :=
  { steamer g .normal with
    climate := { baking.climate with mode := .steam, ts := 1000, steamWanted := true } }

/-- A service drain in flight. -/
def draining (c : ChannelState) (strokes : Nat) (runOn : Option Nat) : State :=
  { steamer .draining .dry with
    drain :=
      { ChannelRec.initial with
        state := c, owner := .generator, mode := .sourceSync, limit := 600, strokes := strokes
        runOn := runOn } }

theorem witness_GeneratorLeavesService :
    (Answers (steaming .ready) ∧ (steaming .ready).climate.overtemp = false ∧
        (steaming .ready).descale.kept.phase = .idle ∧ (steaming .ready).run.state = .idle ∧
        (steaming .ready).climate.state = .active ∧
        (steaming .ready).climate.steamWanted = true) ∧
      (live (draining .active 100 (some 25)).toBlock = true ∧
        (draining .active 100 (some 25)).gen.state = .draining ∧
        (draining .active 100 (some 25)).drain.owner = .generator ∧
        (draining .active 100 (some 25)).drain.runOn = some 25) ∧
      ((draining .active 600 (some 24)).drain.runOn ≠ some 25 ∧
        (draining .active 600 (some 24)).drain.strokes =
          (draining .active 600 (some 24)).drain.limit) ∧
      (draining .paused 3 none).drain.state = .paused :=
  ⟨⟨⟨rfl, rfl⟩, by decide⟩, by decide⟩

theorem witness_FillAccountLosesNothing : 0 < Settings.initial.kf := by decide

theorem witness_DescaleBegins :
    (Answers baking ∧ baking.climate.state ≠ .off) ∧ Answers oven ∧ oven.climate.state = .off ∧
      oven.run.state = .idle ∧ oven.gen.state ≠ .fault ∧ oven.descale.kept.phase = .idle :=
  ⟨⟨⟨rfl, rfl⟩, by decide⟩, ⟨rfl, rfl⟩, by decide, by decide, by decide, by decide⟩

/-- A procedure that asks for the agent again, its generator in FAULT. -/
def redoing : State :=
  { procedure .addAgent with
    descale :=
      { oven.descale with
        kept := { DescaleRec.initial with phase := .addAgent, rinseOwed := true } }
    gen := { oven.gen with state := .fault, dryFire := true } }

theorem witness_DescaleAborts :
    (Answers oven ∧ oven.descale.kept.phase = .idle) ∧ Answers (procedure .soak) ∧
      (procedure .soak).descale.kept.phase = .soak ∧
      Answers (procedure .rinseDrain) ∧ (procedure .addAgent).descale.kept.rinseOwed = false ∧
      (Answers redoing ∧ redoing.descale.kept.phase = .addAgent ∧
        redoing.descale.kept.rinseOwed = true ∧ redoing.gen.state = .fault) ∧
      (procedure .addAgent).gen.state ≠ .fault :=
  ⟨⟨⟨rfl, rfl⟩, by decide⟩, ⟨rfl, rfl⟩, by decide, ⟨rfl, rfl⟩, by decide, ⟨⟨rfl, rfl⟩, by decide⟩,
    by decide⟩

/-- A soak at its last second of its last minute, the wall at 55.0 °C. -/
def soaked : State :=
  { procedure .soak with
    descale :=
      { (procedure .soak).descale with
        kept := { DescaleRec.initial with phase := .soak, minutes := 19 }
        seconds := 59, soakTimer := true, heater := 2200 }
    sensors := { oven.sensors with generator := steady 550 } }

theorem witness_SoakAndRinseAreTimed :
    (live soaked.toBlock = true ∧ soaked.descale.soakTimer = true ∧
        soaked.descale.kept.phase = .soak ∧ soaked.gen.state = .descale ∧
        wallIs soaked.toBlock (fun v => decide (550 ≤ v)) = true ∧
        60 ≤ soaked.descale.seconds + 1 ∧
        soakDuration soaked.straps.cavity ≤ soaked.descale.kept.minutes + 1) ∧
      ¬ (oven.descale.soakTimer = true ∧ oven.descale.kept.phase = .soak ∧
        oven.gen.state = .descale ∧ wallIs oven.toBlock (fun v => decide (550 ≤ v)) = true) ∧
      (enterRinseHold (procedure .rinseFill).toBlock).descale.holdTimer = true ∧
      live (enterRinseHold (procedure .rinseFill).toBlock) = true := by decide

/-- A service fill at its 20th stroke without a count. -/
def pumping : State :=
  { oven with
    fill :=
      { ChannelRec.initial with
        state := .active, owner := .generator, mode := .destSync, target := some .normal
        limit := 400, strokes := 20, noFlow := 20 } }

/-- A procedure's drain in flight. -/
def emptying (ph : DescalePhase) (c : ChannelState) (strokes : Nat) (runOn : Option Nat) : State :=
  { procedure ph with
    descale := { (procedure ph).descale with transfer := some .drain }
    drain :=
      { ChannelRec.initial with
        state := c, owner := .descale, mode := .sourceSync, limit := 600, strokes := strokes
        runOn := runOn } }

/-- A procedure's fill in flight. -/
def flooding (ph : DescalePhase) (c : ChannelState) (strokes noFlow : Nat) : State :=
  { procedure ph with
    descale := { (procedure ph).descale with transfer := some .fill }
    gen := { (procedure ph).gen with level := .normal }
    fill :=
      { ChannelRec.initial with
        state := c, owner := .descale, mode := .unsync, limit := 160, strokes := strokes
        noFlow := noFlow } }

/-- A procedure that waits for water, the tank just pushed in. -/
def thirsty : State :=
  refitted
    { procedure .rinseFill with
      descale := { (procedure .rinseFill).descale with wait := some .tankEmpty } }

theorem witness_DescaleFollowsItsTransfers :
    (live (emptying .drainOld .active 100 (some 25)).toBlock = true ∧
        (emptying .drainOld .active 100 (some 25)).gen.state = .descale ∧
        (emptying .drainOld .active 100 (some 25)).drain.owner = .descale ∧
        (emptying .drainOld .active 100 (some 25)).descale.transfer = some .drain) ∧
      (emptying .rinseDrain .active 600 none).drain.strokes =
        (emptying .rinseDrain .active 600 none).drain.limit ∧
      (emptying .agentDrain .paused 3 none).drain.state = .paused ∧
      (live (flooding .agentFill .active 20 20).toBlock = true ∧
        (flooding .agentFill .active 20 20).fill.owner = .descale ∧
        (flooding .agentFill .active 20 20).descale.transfer = some .fill ∧
        (flooding .agentFill .active 20 20).fill.noFlow = 20) ∧
      ((flooding .rinseFill .active 160 19).fill.strokes =
          (flooding .rinseFill .active 160 19).fill.limit ∧
        (flooding .rinseFill .active 160 19).gen.level ≠ .dry) ∧
      (flooding .rinseFill .paused 3 0).fill.state = .paused ∧
      (let x : State :=
          { flooding .agentFill .active 3 0 with
            switches :=
              { oven.switches with
                eLow := settled true, eNormal := settled true, eHigh := turning true } };
        x.life.settling = none ∧ x.fill.inFlight = true ∧ x.gen.level ≠ .high ∧
        (switchOf x.switches (.electrode .high)).deb ≠ true ∧
        (switchOf x.switches (.electrode .high)).raw = true ∧
        (after (.electrodeChange .high true) x).gen.level = .high) ∧
      (thirsty.descale.wait.isSome = true ∧ thirsty.switches.tank.deb = false ∧
        thirsty.switches.tank.raw = true ∧ thirsty.gen.state = .descale ∧
        thirsty.descale.transfer = none ∧ thirsty.fill.state = .idle ∧
        thirsty.drain.inFlight = false ∧ thirsty.gen.level ≠ .high) := by decide

/-- A part at the last sampling expiry of its settling interval. -/
def waking (s : State) : State := { s with life := { s.life with settling := some 3 } }

theorem witness_DescaleResumes :
    (live (waking (procedure .soak)).toBlock = true ∧
        (waking (procedure .soak)).life.settling = some 3 ∧
        (waking (procedure .soak)).descale.kept.phase ≠ .idle ∧
        (waking (procedure .soak)).gen.state = .descale ∧
        (∀ v, inSpan .generator (wallSamples (.value 900)).generator = some v → v < 1600)) ∧
      (let x : State :=
          { redoing with sensors := { oven.sensors with generator := steady 1100 } };
        Answers x ∧ x.gen.state = .fault ∧ wallCooled x.toBlock = true ∧
        x.descale.kept.phase ≠ .idle) ∧
      (procedure .refillClean).attn.has .emptyAndRefill = false ∧
      (serving .emptyAndRefill (procedure .refillClean)).attn.has .emptyAndRefill = true :=
  ⟨by decide, ⟨⟨rfl, rfl⟩, by decide⟩, by decide⟩

theorem witness_ChannelsMoveWater :
    live pumping.toBlock = true ∧ (pumping.channel .fill).state = .active ∧
      (pumping.channel .fill).noFlow = 20 ∧ FlowEdge.rising = pumping.settings.edge ∧
      (pumping.channel .drain).state ≠ .active ∧
      ({ pumping with fill := pumping.fill.pause }.channel .fill).state = .paused := by decide

theorem witness_RecipeStoreIsExamined : Answers stocked := ⟨rfl, rfl⟩

theorem witness_RecipeReadEraseAndList :
    Answers stocked ∧ 16 ≤ (16#8 : Byte).toNat ∧ slotBusy stocked.toBlock 7 = false ∧
      (stocked.store.slots.get 7).recipe = some roast ∧
      (stocked.store.slots.get 0).recipe = none ∧ 2 ≤ (2#8 : Byte).toNat ∧
      slotBusy (queueWrite (.slot 7 ⟨none, 3⟩) stocked.toBlock) 7 = true :=
  ⟨⟨rfl, rfl⟩, by decide, by decide, by decide, by decide, by decide, by decide⟩

theorem witness_RunStarts :
    Answers stocked ∧ ((readyByPayload.getD 1 0#8).toNat = 2 ∧ readyByPayload.length = 7) ∧
      slotOf (readyByPayload.getD 0 0#8).toNat = some 7 ∧
      (stocked.store.slots.get 7).recipe = some roast ∧
      (clockAt readyByPayload 2 = ⟨412, 66600⟩ ∧ 66600 ≤ 86399 ∧
        (⟨412, 66600⟩ : ClockTime).diff stocked.clock.time ≤ 86400 ∧ stocked.clock.valid = true) ∧
      stocked.descale.kept.phase = .idle ∧ stocked.run.state = .idle ∧
      stocked.climate.state ≠ .fault ∧ stocked.gen.state ≠ .fault ∧
      slotBusy stocked.toBlock 7 = false ∧ roast.usesSteam = false ∧ roast.endless = false ∧
      ((([7#8, 0#8] : Payload).getD 1 0#8).toNat = 0 ∧ ([7#8, 0#8] : Payload).length = 2) ∧
      ((([] : Payload).getD 1 0#8).toNat = 0 ∧ ([] : Payload).length ≠ 2) :=
  ⟨⟨rfl, rfl⟩, by decide, by decide, by decide, by decide, by decide, by decide, by decide,
    by decide, by decide, by decide, by decide, by decide, by decide⟩

/-- A run held by PAUSE and POWER. -/
def paused : State :=
  { running 2 .active with
    run :=
      { (running 2 .active).run with hold := { HoldSet.empty with pause := true, power := true } } }

theorem witness_PauseAndResumeHoldTheRun :
    (Answers oven ∧ oven.run.state ≠ .running ∧ ([0#8] : Payload) ≠ []) ∧
      (Answers (running 2 .active) ∧ (running 2 .active).run.hold.pause = false ∧
        (running 2 .active).run.hold.power = false) ∧
      (Answers (roasting 2) ∧ (roasting 2).run.state = .running ∧
        (roasting 2).run.hold = HoldSet.empty ∧ inRest (roasting 2).toBlock = false ∧
        (roasting 2).climate.state = .active) ∧
      (Answers (roasting 3) ∧ inRest (roasting 3).toBlock = true) ∧
      Answers paused ∧ paused.run.state = .running ∧ paused.run.hold.pause = true :=
  ⟨⟨⟨rfl, rfl⟩, by decide, by decide⟩, ⟨⟨rfl, rfl⟩, by decide, by decide⟩,
    ⟨⟨rfl, rfl⟩, by decide, by decide, by decide, by decide⟩, ⟨⟨rfl, rfl⟩, by decide⟩, ⟨rfl, rfl⟩,
    by decide, by decide⟩

/-- A pause suspends the climate with RUN_HOLD (R5, R6, R125). -/
theorem test_pause_suspends_the_climate :
    (match exec (.runPause []) (roasting 2) with
      | .next t => (t.climate.state, t.climate.reasons.runHold, t.share.requests.ring.watts)
      | _ => (.off, false, 1)) = (.suspended, true, 0) := by decide

/-- 5 s of silence stop a heating run (R126). -/
theorem test_silence_suspends_the_run :
    (match exec .silence5s silentRoast with
      | .next t => (t.climate.state, t.climate.reasons.runHold, t.share.requests.gen.watts)
      | _ => (.off, false, 1)) = (.suspended, true, 0) := by decide

theorem witness_AdvanceAndAbortEndTheStep :
    (Answers oven ∧ oven.run.state = .idle) ∧ Answers (running 3 .active) ∧
      (running 3 .active).run.state = .running ∧
      (running 2 .active).run.stepIndex < roast.steps.length ∧
      roast.steps.length ≤ (running 3 .active).run.stepIndex :=
  ⟨⟨⟨rfl, rfl⟩, by decide⟩, ⟨rfl, rfl⟩, by decide, by decide, by decide⟩

/-- The first step with its cavity sensor lost for the 60th second. -/
def sensorless : State :=
  { running 1 .active with
    run :=
      { (running 1 .active).run with
        hold := { HoldSet.empty with sensor := true }, sensorCount := 59 } }

/-- A step by core temperature, its 60th second without a core at hand. -/
def probing : State :=
  { running 2 .active with
    run :=
      { (running 2 .active).run with step := { StepFields.initial with probeCount := 59 } } }

/-- A STEAM step, the generator waiting for water. -/
def steamStep : State :=
  { running 1 .active with
    gen := { oven.gen with state := .waitWater }
    run :=
      { (running 1 .active).run with
        recipe := some { roast with steps := [{ bakeStep with mode := .cook .steam }] } } }

/-- A preheat at its last second. -/
def preheated : State :=
  { running 1 .preheat with
    run :=
      { (running 1 .preheat).run with step := { StepFields.initial with preheat := 1799 } } }

theorem witness_StepSecondCounts :
    (live (running 1 .active).toBlock = true ∧ (running 1 .active).run.state = .running ∧
        (running 1 .active).run.stepTimer = true ∧
        currentStep (running 1 .active).toBlock = some bakeStep ∧
        bakeStep.endKind = .time ∧ (running 1 .active).run.hold.any = false ∧ (running 1 .active).run.phase = some .active) ∧
      (running 1 .prompt).run.phase = some .prompt ∧
      (currentStep sensorless.toBlock = some bakeStep ∧ sensorless.run.hold.sensor = true ∧
        59 ≤ sensorless.run.sensorCount) ∧
      paused.run.hold.any = true ∧ paused.run.hold.sensor = false ∧
      oven.run.state ≠ .running ∧
      (currentStep probing.toBlock = some coreStep ∧ coreTemperature probing.toBlock = none ∧
        probing.run.step.probeCount = 59) ∧
      (currentStep steamStep.toBlock = some { bakeStep with mode := .cook .steam } ∧
        steamStep.gen.state = .waitWater) ∧
      ((running 1 .preheat).run.phase = some .preheat ∧
        measuredTm (running 1 .preheat).toBlock = some 1680) ∧
      preheated.run.phase = some .preheat ∧ preheated.run.step.preheat = 1799 := by decide

/-- The oven with one report queued. -/
def reported : State :=
  { oven with reports := { list := [stepReport .time oven.toBlock], overflow := false } }

theorem witness_ReportTakeAndClearServeTheQueue :
    (Answers oven ∧ oven.reports.list = [] ∧ ([0#8] : Payload) ≠ []) ∧ Answers reported ∧
      reported.reports.list = stepReport .time oven.toBlock :: [] ∧
      reported.reports.list.length < 8 :=
  ⟨⟨⟨rfl, rfl⟩, by decide, by decide⟩, ⟨rfl, rfl⟩, by decide, by decide⟩

theorem witness_AttentionMaskIsTaken :
    Answers oven ∧ ([] : Payload).length ≠ 4 ∧ [0#8, 1#8, 0x80#8, 9#8].length = 4 :=
  ⟨⟨rfl, rfl⟩, by decide, by decide⟩

theorem witness_PeekAndTakeByPriority :
    Answers oven ∧
      oven.attn.peek.find? (fun e => decide (e.state = .pending)) =
        some ⟨.clockInvalid, .pending, none, .none⟩ ∧
      oven.attn.chain.getLast?.any
        (fun k => decide (k.priority ≤ AttnKind.clockInvalid.priority)) = false ∧
      Attn.empty.peek.find? (fun e => decide (e.state = .pending)) = none :=
  ⟨⟨rfl, rfl⟩, by decide, by decide, by decide⟩

theorem witness_CloseFollowsTheClass :
    (Answers oven ∧ oven.attn.chain = [] ∧ 17 < (18#8 : Byte).toNat) ∧
      ((serving .tankEmpty oven).attn.chain.getLast? = some .tankEmpty ∧
        AttnKind.tankEmpty.cls = .latched ∧ AttnKind.runEnded.cls = .latched) ∧
      (AttnKind.descaleDue.cls = .condition ∧
        conditionHolds (heard (serving .descaleDue oven).toBlock) .descaleDue = true ∧
        conditionHolds (heard (serving .doorOpen oven).toBlock) .doorOpen = false) ∧
      (AttnKind.addDescaler.cls = .prompt ∧
        promptReady .addDescaler (heard (serving .addDescaler (procedure .addAgent)).toBlock) =
          true ∧
        promptReady .emptyAndRefill
          (heard (serving .emptyAndRefill (procedure .refillClean)).toBlock) = false) ∧
      promptReady .stepPrompt (heard (serving .stepPrompt (running 1 .prompt)).toBlock) = true ∧
      ((serving .doorOpen oven).attn.find .doorOpen).any
        (fun e => decide (e.state = .inService)) = true :=
  ⟨⟨⟨rfl, rfl⟩, by decide, by decide⟩, by decide, by decide, by decide, by decide, by decide⟩

/-- A run that waits for day 412, 36 001 s. -/
def waiting : State :=
  { stocked with
    run :=
      { Run.cleared with
        state := .pending, recipe := some roast, slot := some 7, runId := 18
        startTime := some ⟨412, 36001⟩ } }

theorem witness_ClockCommandsKeepTime :
    Answers waiting ∧ [0x01#8, 0x9C#8, 0x01#8, 0x51#8, 0x7F#8].length = 5 ∧
      natOf (bytesAt [0x01#8, 0x9C#8, 0x01#8, 0x51#8, 0x7F#8] 2 3) = 86399 ∧
      natOf (bytesAt [0x01#8, 0x9C#8, 0x01#8, 0x51#8, 0x80#8] 2 3) = 86400 ∧
      (waiting.run.state = .pending ∧
        (waiting.run.startTime.any fun t => !t.after ⟨412, 36001⟩) = true) ∧
      receiving waiting.toBlock = true :=
  ⟨⟨rfl, rfl⟩, by decide, by decide, by decide, by decide, by decide⟩

/-- The default settings as a payload. -/
def settingsPayload : Payload := settingsBytes (defaultSettings .a10)

theorem witness_SettingsAreWrittenClamped :
    Answers oven ∧ StoreServed oven.toBlock ∧ settingsPayload.length = 14 ∧
      byteAt settingsPayload 7 < 2 ∧ byteAt settingsPayload 13 < 2 ∧
      2 ≤ byteAt (settingsPayload.set 7 2#8) 7 ∧ [9#8, 0#8, 7#8].length = 3 :=
  ⟨⟨rfl, rfl⟩, .inr rfl, by decide, by decide, by decide, by decide, by decide⟩

/-- The samples of a cavity at 300.0 °C and a wall at 160.0 °C. -/
def hotSamples : Samples := ⟨.value 3000, .value 1600, .out, .out, .out, .out⟩

theorem witness_SamplingMovesTheChannels :
    (live oven.toBlock = true ∧ oven.life.settling = none ∧
        oven.sensors.cavity.validity = .valid ∧ inSpan .cavity hotSamples.cavity = some 3000 ∧
        oven.climate.overtemp = false) ∧
      (oven.sensors.generator.validity = .valid ∧
        inSpan .generator hotSamples.generator = some 1600 ∧ oven.gen.dryFire = false) ∧
      live State.reset.toBlock = true ∧ State.reset.life.settling = some 0 ∧
      (live (waking ready).toBlock = true ∧ (waking ready).life.settling = some 3 ∧
        (waking ready).life.power = .awake) ∧
      Analog.unplugged (steady 0) = { steady 0 with validity := .invalid, window := [] } := by
  decide

/-- The door's first contact turned to a level, the other closed. -/
def hinged (o : Bool) : State :=
  { oven with switches := { oven.switches with contactA := turning o } }

/-- A channel that has taken three samples in span since its start. -/
def starting3 : Analog := { Analog.starting with run := 3, window := [1, 2, 3], taken := 3 }

theorem witness_ValidityReachesItsConsumers :
    (starting3.validity = .starting ∧ 3 ≤ starting3.taken ∧ 3 ≤ starting3.run ∧
        Analog.starting.taken < 3 ∧ { starting3 with run := 2 }.run < 3) ∧
      (let x : State :=
          { baking with sensors := { baking.sensors with cavity := { steady 1680 with run := 3 } } };
        live x.toBlock = true ∧ x.life.settling = none ∧ x.sensors.cavity.validity = .valid ∧
        (after (.samplingExpiry ⟨.out, .out, .out, .out, .out, .out⟩) x).sensors.cavity.validity =
          .invalid) ∧
      (let x : State :=
          { baking with
            sensors :=
              { baking.sensors with cavity := { steady 1680 with validity := .invalid, run := 3 } } };
        (after (.samplingExpiry (wallSamples (.value 900))) x).sensors.cavity.validity = .valid) ∧
      (let x : State :=
          { procedure .soak with
            sensors := { oven.sensors with generator := { steady 600 with run := 3 } } };
        x.gen.state = .descale ∧ x.descale.kept.phase = .soak ∧
        (after (.samplingExpiry (wallSamples .out)) x).sensors.generator.validity = .invalid) := by
  decide

/-- A contact that turns in the settling interval after its first reading is taken as a change. -/
theorem test_second_change_in_settling :
    (after (.doorContactChange .a false)
        { State.reset with
          switches := { State.reset.switches with contactA := ⟨false, true, none, false⟩ } }
      ).switches.contactA.deb = false := by decide

theorem witness_DoorActs :
    (live (hinged true).toBlock = true ∧ (hinged true).life.settling = none ∧
        (switchOf (hinged true).switches (.contact .a)).deb ≠ true ∧
        (switchOf (hinged true).switches (.contact .a)).raw = true ∧
        (switchOf (hinged true).switches (.contact .b)).deb = false) ∧
      ((switchOf (hinged false).switches (.contact .a)).deb ≠ false ∧
        (switchOf (hinged false).switches (.contact .a)).raw = false) ∧
      ((switchOf oven.switches (.contact .a)).deb = false ∧
        (switchOf oven.switches (.contact .a)).raw ≠ true) ∧
      ({ oven with switches := { oven.switches with disagree := true } } : State).switches.disagree =
        true ∧
      (let x : State := { hinged true with run := (running 1 .prompt).run };
        live x.toBlock = true ∧ x.run.state = .running ∧ x.run.step.doorCount = 0 ∧
        x.run.phase = some .prompt ∧ x.run.step.doorCycle = .none ∧
        (x.climate.state ≠ .off ∨ x.run.state ≠ .idle)) ∧
      (let x : State :=
          { hinged false with
            climate :=
              { oven.climate with
                state := .suspended, reasons := ⟨true, false, false, false⟩ } };
        live x.toBlock = true ∧ x.climate.state = .suspended ∧
        (x.climate.reasons.runHold || x.climate.reasons.silent || x.climate.reasons.sensor) =
          false) ∧
      (oven.climate.state = .off ∧ oven.run.state = .idle) ∧
      (let x : State :=
          { hinged true with
            switches := { (hinged true).switches with contactB := settled true } };
        (switchOf x.switches (.contact .b)).deb = true) := by decide

/-- The tank just pulled, the plug just put in. -/
def pulled : State :=
  { oven with switches := { oven.switches with tank := turning false, plug := turning true } }

theorem witness_TankPlugAndElectrodesAct :
    (live pulled.toBlock = true ∧ pulled.life.settling = none ∧
        pulled.switches.tank.deb = true ∧ pulled.switches.tank.raw = false ∧
        pulled.switches.plug.deb = false ∧ pulled.switches.plug.raw = true) ∧
      ((refitted oven).switches.tank.deb = false ∧ (refitted oven).switches.tank.raw = true) ∧
      ((turning false).deb = true ∧ (turning false).raw = false) ∧
      (switchOf { oven.switches with eLow := turning true } (.electrode .low)).raw = true ∧
      (switchOf oven.switches (.electrode .low)).raw ≠ true ∧
      ({ pumping with fill := pumping.fill.pause }.channel .fill).state = .paused := by decide

/-- The RESET line asserted, its flush and its note done. -/
def reset : State :=
  { oven with
    life :=
      { oven.life with resetLine := true, flush := .resetLine, note := .written, noteMark := true } }

/-- Under the RESET line the tank's raw level follows its input and the debounced state stays; a start
keeps the raw level it finds (R165). -/
theorem test_raw_change_under_reset :
    (match exec (.switchRawChange .tank false) reset with
      | .next t => (t.switches.tank.raw, t.switches.tank.deb)
      | _ => (true, false)) = (false, true) ∧
      (Switch.restart false ⟨true, true, none, false⟩).raw = true := by decide

/-- The supply lost, its flush and its note done. -/
def lost : State :=
  { oven with life := { oven.life with mainsLost := true, flush := .mains, note := .written } }

/-- A RESTART whose flush is done. -/
def flushed : State := { oven with life := { oven.life with flush := .restart } }

/-- The SETTINGS write in flight, a CHECKPOINT write pending. -/
def writing : Store :=
  { Store.initial with inFlight := some (.settings .initial), queue := [.checkpoint none] }

/-- A store with a SCALE write in flight. -/
def scaling (q : List Write) : Store :=
  { Store.initial with inFlight := some (.scale ⟨0, 0, 0⟩), queue := q }

theorem witness_WriteCompletes :
    oven.store.inFlight = none ∧
      (writing.inFlight = some (.settings .initial) ∧
        (Write.settings .initial).record ≠ .startNote ∧
        writing.queue.filter (fun y => decide (y.record = .checkpoint)) = writing.queue) ∧
      (∀ y ∈ (scaling [.slot 9 .empty, .settings .initial]).queue,
        y.record = .slot 9 ∨ y.record = .settings) ∧
      (lost.life.note = .written ∧ oven.life.note = .waiting ∧ lost.life.flush = .mains) ∧
      (oven.life.releaseDue = none ∧ reset.life.releaseDue = none) ∧
      (let x : State := { reset with life := { reset.life with releaseDue := some ⟨false, []⟩ } };
        x.life.releaseDue = some ⟨false, []⟩ ∧ x.life.mainsLost = false) := by decide

/-- The RESET line asserted, its note still to be written. -/
def early : State := { reset with life := { reset.life with note := .waiting } }

/-- A cold start of a part that lost nothing. -/
def coldInputs : ColdInputs := ⟨⟨false, false, false⟩, ⟨false, []⟩⟩

/-- The supply lost under the RESET line, the flush and the note done. -/
def lostUnderReset : State := { reset with life := { reset.life with mainsLost := true } }

/-- R177, R181: the supply comes up with the oscillator stopped and the COMPACT strap while the RESET line
is asserted; a crossing that follows does not change what the start at the release finds. -/
theorem test_crossing_keeps_the_cold_start :
    (match exec (.coldStart ⟨⟨true, false, false⟩, ⟨true, []⟩⟩) lostUnderReset with
      | .next t =>
        match exec .zeroCrossing t with
        | .next u =>
          match exec (.resetLineRelease ⟨false, []⟩) u with
          | .next v => (v.life.start.cause, v.straps.cavity, v.clock.valid)
          | _ => (.resetLine, .full, true)
        | _ => (.resetLine, .full, true)
      | _ => (.resetLine, .full, true)) = (.powerOn, .compact, false) := by decide +kernel

theorem witness_StartsRebuildThePart :
    (lostUnderReset.life.mainsLost = true ∧ lostUnderReset.life.note = .written ∧
        lostUnderReset.life.resetLine = true ∧ lostUnderReset.life.coldDue = none ∧
        { lost.life with note := .waiting }.note ≠ NoteStage.written) ∧
    (oven.life.flush = .none ∧ oven.life.resetLine = false) ∧
      (reset.life.flush = .resetLine ∧ early.life.note ≠ .written ∧ early.life.flush = .resetLine) ∧
      (lost.life.resetLine = false ∧ lost.life.mainsLost = true ∧ lost.life.note = .written) ∧
      (flushed.life.flush = .restart ∧ flushed.store.inFlight = none ∧ flushed.store.queue = [] ∧
        flushed.life.mainsLost = false ∧ flushed.life.resetLine = false) ∧
      (reset.life.resetLine = true ∧ reset.life.coldDue = none ∧ reset.life.mainsLost = false ∧
        reset.life.note = .written) ∧
      (early.life.resetLine = true ∧ early.life.coldDue = none ∧ early.life.mainsLost = false) ∧
      ({ reset with life := { reset.life with mainsLost := true } } : State).life.mainsLost = true ∧
      (let x : State := { reset with life := { reset.life with coldDue := some coldInputs } };
        x.life.resetLine = true ∧ x.life.coldDue = some coldInputs) ∧
      live oven.toBlock = true := by decide

/-- A checkpoint of the roast in its second step, 90 s before the oven's clock. -/
def kept : Checkpoint :=
  { slot := 7, writeCount := 3, runId := 18, startMode := .now, running := true, startTime := none
    stepIndex := 2, phase := some .active, active := 60, heat := 0, time := some ⟨412, 35910⟩ }

/-- The oven with a checkpoint retained. -/
def retained (k : Checkpoint) : State :=
  { stocked with store := { stocked.store with checkpoint := some k } }

/-- A run restored to its second step, at the end of start-up. -/
def restored : State :=
  waking
    { running 2 .active with
      run :=
        { (running 2 .active).run with
          stepTimer := false, hold := { HoldSet.empty with power := true }
          resume := some (.at .active 60 0) } }

theorem witness_CheckpointIsRestoredOrEnded :
    ((retained kept).life.resetLine = false ∧ (retained kept).life.flush = .none ∧
        (retained kept).store.checkpoint = some kept ∧
        coldInputs.found.failed.contains .checkpoint = false ∧
        (retained kept).store.descale.phase = .idle ∧
        (retained kept).store.note.resetMark = false ∧ (retained kept).clock.valid = true ∧
        ((retained kept).store.slots.get kept.slot).count = kept.writeCount ∧
        ((retained kept).store.slots.get kept.slot).recipe = some roast ∧
        kept.time = some ⟨412, 35910⟩ ∧
        (0 ≤ (⟨412, 36000⟩ : ClockTime).diff ⟨412, 35910⟩ ∧
          (⟨412, 36000⟩ : ClockTime).diff ⟨412, 35910⟩ ≤ 600)) ∧
      (0 < (⟨412, 36001⟩ : ClockTime).diff (retained kept).clock.time ∧
        ¬ 0 < (⟨412, 36000⟩ : ClockTime).diff (retained kept).clock.time) ∧
      (live restored.toBlock = true ∧ restored.life.settling = some 3 ∧
        restored.run.state = .running ∧ restored.run.resume = some (.at .active 60 0) ∧
        currentStep restored.toBlock = some coreStep ∧
        restored.run.hold = { HoldSet.empty with power := true } ∧
        ∀ v, inSpan .cavity (wallSamples .out).cavity = some v → v < 3000) := by decide

end Sys2Proof.Tests
end

section
/-! SUPPORT. The vital part of a block: what the output stages and the settings rest on (R36 to R40, R174, R176). -/

namespace Sys2Proof.Machine

/-! ### The vital part of a block -/

/-- A write that no block queues on its own: all but those of the scale account and the checkpoint. -/
def Write.lasting : Write → Bool
  | .scale _ | .checkpoint _ => false
  | _ => true

/-- What the output stages and the settings rest on: the settings, the straps and the retained store
(without the pending writes that the blocks queue on their own), the life record, the conditions of the
interlocks, and what every load holds and does. -/
structure Vital where
  settings : Settings
  straps : Straps
  store : Store
  life : Life
  doorOpen : Bool
  overtemp : Bool
  dryFire : Bool
  level : Level
  outputs : PerLoad (LockSet × Bool)

/-- The vital part of a block. -/
def Block.vital (b : Block) : Vital :=
  { settings := b.settings
    straps := b.straps
    store := { b.store with queue := b.store.queue.filter Write.lasting }
    life := b.life
    doorOpen := doorOpen b
    overtemp := b.climate.overtemp
    dryFire := b.gen.dryFire
    level := b.gen.level
    outputs := b.share.loads.mapWith fun _ o => (o.locks, o.firing) }

theorem enqueue_lasting {w : Write} (h : w.lasting = false) (q : List Write) :
    (enqueue w q).filter Write.lasting = q.filter Write.lasting := by
  induction q with
  | nil => simp [enqueue, h]
  | cons x xs ih =>
    unfold enqueue
    split
    next e =>
      have hx : x.lasting = false := by
        cases w <;> cases x <;> simp_all [Write.record, Write.lasting]
      simp [h, hx]
    next => simp only [List.filter_cons, ih]

@[simp] theorem vital_setClock (x : Clock) (b : Block) : (setClock x b).vital = b.vital := rfl
@[simp] theorem vital_setDescale (x : Descale) (b : Block) : (setDescale x b).vital = b.vital := rfl
@[simp] theorem vital_setRun (x : Run) (b : Block) : (setRun x b).vital = b.vital := rfl
@[simp] theorem vital_setRunCounter (n : Nat) (b : Block) :
    (setRunCounter n b).vital = b.vital := rfl
@[simp] theorem vital_setReports (q : Reports) (b : Block) : (setReports q b).vital = b.vital := rfl
@[simp] theorem vital_setAttn (a : Attn) (b : Block) : (setAttn a b).vital = b.vital := rfl
@[simp] theorem vital_setSensors (x : Sensors) (b : Block) : (setSensors x b).vital = b.vital := rfl
@[simp] theorem vital_setLink (l : Link) (b : Block) : (setLink l b).vital = b.vital := rfl
@[simp] theorem vital_setSilence (q : Silence) (b : Block) : (setSilence q b).vital = b.vital := rfl
@[simp] theorem vital_setChannel (c : Channel) (r : ChannelRec) (b : Block) :
    (setChannel c r b).vital = b.vital := by cases c <;> rfl

@[simp] theorem vital_setClimate {c : Climate} {b : Block} (h : c.overtemp = b.climate.overtemp) :
    (setClimate c b).vital = b.vital := by simp [Block.vital, doorOpen, h]

@[simp] theorem vital_setGen {g : Generator} {b : Block} (hl : g.level = b.gen.level)
    (hd : g.dryFire = b.gen.dryFire) : (setGen g b).vital = b.vital := by
  simp [Block.vital, doorOpen, hl, hd]

@[simp] theorem vital_writeGenRow (w p : Nat) (b : Block) :
    (writeGenRow w p b).vital = b.vital := rfl
@[simp] theorem vital_writeElementRows (r t o p : Nat) (b : Block) :
    (writeElementRows r t o p b).vital = b.vital := rfl
@[simp] theorem vital_raiseAttn (k : AttnKind) (d : Detail) (b : Block) :
    (raiseAttn k d b).vital = b.vital := rfl
@[simp] theorem vital_clearAttn (k : AttnKind) (b : Block) : (clearAttn k b).vital = b.vital := rfl
@[simp] theorem vital_clearSource (f : FaultSource) (b : Block) :
    (clearSource f b).vital = b.vital := rfl
@[simp] theorem vital_pushReport (r : Report) (b : Block) : (pushReport r b).vital = b.vital := rfl

theorem vital_queueWrite {w : Write} (h : w.lasting = false) (b : Block) :
    (queueWrite w b).vital = b.vital := by
  simp [Block.vital, doorOpen, enqueue_lasting h]

@[simp] theorem vital_queueScaleWrite (v : ScaleRec) (b : Block) :
    (queueWrite (.scale v) b).vital = b.vital := vital_queueWrite rfl b
@[simp] theorem vital_queueCheckpointWrite (k : Option Checkpoint) (b : Block) :
    (queueWrite (.checkpoint k) b).vital = b.vital := vital_queueWrite rfl b

@[simp] theorem store_overtemp (x : ClimateSetting) (c : Climate) :
    (Climate.store x c).overtemp = c.overtemp := by unfold Climate.store; rfl
@[simp] theorem computed_overtemp (c : Climate) (s : Bool) (tm : Int) (o : Bool) :
    (c.computed s tm o).overtemp = c.overtemp := by unfold Climate.computed; rfl

theorem vital_claim {k : Claim} {b c : Block} (h : claim k b = some c) : c.vital = b.vital := by
  rw [(claim_some h).2, vital_setChannel]

@[simp] theorem vital_release (c : Channel) (o : Owner) (b : Block) :
    (release c o b).vital = b.vital := by
  rcases release_cases c o b with e | ⟨-, e⟩ <;> rw [e]
  exact vital_setChannel _ _ _

@[simp] theorem vital_endTransfer (c : Channel) (r : EndReason) (b : Block) :
    (endTransfer c r b).vital = b.vital := by
  rcases endTransfer_cases c r b with e | ⟨-, e⟩ <;> rw [e]
  exact vital_setChannel _ _ _

@[simp] theorem vital_ite (c : Prop) {i : Decidable c} (a b : Block) :
    (if c then a else b).vital = if c then a.vital else b.vital := apply_ite _ _ _ _

end Sys2Proof.Machine
end

section
/-! SUPPORT. No operation over the blocks changes the vital part. -/

namespace Sys2Proof.Machine

/-! ### Ops -/

@[simp] theorem vital_raiseSource (f : FaultSource) (b : Block) :
    (raiseSource f b).vital = b.vital := by simp [raiseSource]

@[simp] theorem vital_followCondition (k : AttnKind) (holds : Bool) (b : Block) :
    (followCondition k holds b).vital = b.vital := by simp [followCondition]

@[simp] theorem vital_queueScale (b : Block) : (queueScale b).vital = b.vital := by
  simp [queueScale]

/-! ### Generator -/

@[simp] theorem vital_refreshGenRow (b : Block) : (refreshGenRow b).vital = b.vital := by
  unfold refreshGenRow
  split <;> simp

@[simp] theorem vital_enterGen (st : GenState) (b : Block) : (enterGen st b).vital = b.vital := by
  simp [enterGen]

@[simp] theorem vital_handOver (demand : Nat) (prio : Option Nat) (b : Block) :
    (handOver demand prio b).vital = b.vital := by
  simp only [handOver]
  split <;> simp

@[simp] theorem vital_followScale (b : Block) : (followScale b).vital = b.vital := by
  simp [followScale]

@[simp] theorem vital_accountFill (b : Block) : (accountFill b).vital = b.vital := by
  simp [accountFill]

@[simp] theorem vital_settleFill (b : Block) : (settleFill b).vital = b.vital := by
  simp [settleFill]

@[simp] theorem vital_stopFill (b : Block) : (stopFill b).vital = b.vital := by simp [stopFill]

@[simp] theorem vital_raiseOption (k : Option AttnKind) (b : Block) :
    (raiseOption k b).vital = b.vital := by
  unfold raiseOption
  split <;> simp

@[simp] theorem vital_genFillEnd (reason : EndReason) (b : Block) :
    (genFillEnd reason b).vital = b.vital := by
  simp only [genFillEnd]
  split
  case h_1 | h_2 => simp
  all_goals split <;> simp

theorem vital_genClaim {k : Claim} {p : Purpose} {b c : Block} (h : genClaim k p b = some c) :
    c.vital = b.vital := by
  obtain ⟨x, hx, rfl⟩ := Option.map_eq_some_iff.mp h
  simp [vital_claim hx]

@[simp] theorem vital_takeImmediateFill (b : Block) : (takeImmediateFill b).vital = b.vital := by
  simp [takeImmediateFill]

theorem vital_startFilling {b c : Block} (h : startFilling b = some c) : c.vital = b.vital := by
  obtain ⟨x, hx, rfl⟩ := Option.map_eq_some_iff.mp h
  simp [vital_genClaim hx]

@[simp] theorem vital_startFilling_getD (b : Block) :
    ((startFilling b).getD b).vital = b.vital := by
  cases h : startFilling b with
  | none => rfl
  | some c => exact vital_startFilling h

@[simp] theorem vital_claimRefill (b : Block) : (claimRefill b).vital = b.vital := by
  unfold claimRefill
  split
  next h => simp [vital_genClaim h]
  next => rfl

@[simp] theorem vital_restIdle (b : Block) : (restIdle b).vital = b.vital := by simp [restIdle]

@[simp] theorem vital_serviceDecision (b : Block) : (serviceDecision b).vital = b.vital := by
  unfold serviceDecision
  split
  · simp
  split
  · simp
  split
  case h_1 | h_2 =>
    split
    next h => simp [vital_startFilling h]
    next => simp
  all_goals simp

@[simp] theorem vital_enterIdle (b : Block) : (enterIdle b).vital = b.vital := by simp [enterIdle]

@[simp] theorem vital_returnFromCooling (b : Block) : (returnFromCooling b).vital = b.vital := by
  unfold returnFromCooling
  split
  · simp
  split <;> simp

@[simp] theorem vital_steamWantedSet (b : Block) : (steamWantedSet b).vital = b.vital := by
  unfold steamWantedSet
  split <;> simp

@[simp] theorem vital_steamWantedCleared (b : Block) : (steamWantedCleared b).vital = b.vital := by
  unfold steamWantedCleared
  split <;> simp

@[simp] theorem vital_retryWater (b : Block) : (retryWater b).vital = b.vital := by
  unfold retryWater
  split <;> simp

@[simp] theorem vital_genLevelChange (new : Level) (b : Block) :
    (genLevelChange new b).vital = b.vital := by
  unfold genLevelChange
  split
  case h_4 => rfl
  all_goals simp

@[simp] theorem vital_genDrainEnd (reason : EndReason) (b : Block) :
    (genDrainEnd reason b).vital = b.vital := by
  simp only [genDrainEnd]
  split
  case h_4 | h_5 | h_6 => simp
  all_goals simp

@[simp] theorem vital_genWallSample (v : Int) (b : Block) :
    (genWallSample v b).vital = b.vital := by
  unfold genWallSample
  split
  case h_3 =>
    split
    · split
      next h => simp [vital_genClaim h]
      next => rfl
    · rfl
  all_goals simp

@[simp] theorem vital_genChannelInvalid (b : Block) : (genChannelInvalid b).vital = b.vital := by
  unfold genChannelInvalid
  split <;> simp

@[simp] theorem vital_genChannelValid (b : Block) : (genChannelValid b).vital = b.vital := by
  unfold genChannelValid
  split <;> simp

@[simp] theorem vital_genReleaseEnded (b : Block) : (genReleaseEnded b).vital = b.vital := by
  simp [genReleaseEnded]

@[simp] theorem vital_endAllTransfers (reason : EndReason) (b : Block) :
    (endAllTransfers reason b).vital = b.vital := by simp [endAllTransfers]

/-! ### Climate -/

@[simp] theorem vital_openFlap (b : Block) : (openFlap b).vital = b.vital := by simp [openFlap]

@[simp] theorem vital_closeFlap (b : Block) : (closeFlap b).vital = b.vital := by simp [closeFlap]

@[simp] theorem vital_commandModeFlap (b : Block) : (commandModeFlap b).vital = b.vital := by
  unfold commandModeFlap
  split <;> simp

@[simp] theorem vital_zeroDemand (b : Block) : (zeroDemand b).vital = b.vital := by
  simp [zeroDemand]

@[simp] theorem vital_suspend (b : Block) : (suspend b).vital = b.vital := by simp [suspend]

@[simp] theorem vital_returnActive (b : Block) : (returnActive b).vital = b.vital := by
  simp [returnActive]

@[simp] theorem vital_putReasons (r : Reasons) (b : Block) : (putReasons r b).vital = b.vital := by
  simp only [putReasons]
  split
  case h_1 | h_2 => split <;> simp
  all_goals simp

@[simp] theorem vital_putDoorReason (v : Bool) (b : Block) :
    (putDoorReason v b).vital = b.vital := by simp [putDoorReason]

@[simp] theorem vital_putSensorReason (v : Bool) (b : Block) :
    (putSensorReason v b).vital = b.vital := by simp [putSensorReason]

@[simp] theorem vital_putRunHold (v : Bool) (b : Block) : (putRunHold v b).vital = b.vital := by
  simp [putRunHold]

@[simp] theorem vital_putSilentReason (v : Bool) (b : Block) :
    (putSilentReason v b).vital = b.vital := by simp [putSilentReason]

@[simp] theorem vital_putSteamWanted (v : Bool) (b : Block) :
    (putSteamWanted v b).vital = b.vital := by simp [putSteamWanted]

@[simp] theorem vital_leaveOff (b : Block) : (leaveOff b).vital = b.vital := by simp [leaveOff]

@[simp] theorem vital_enterOff (b : Block) : (enterOff b).vital = b.vital := by simp [enterOff]

@[simp] theorem vital_enterFault (b : Block) : (enterFault b).vital = b.vital := by
  simp [enterFault]

@[simp] theorem vital_changeMode (x : ClimateSetting) (b : Block) :
    (changeMode x b).vital = b.vital := by
  simp only [changeMode]
  split <;> simp

@[simp] theorem vital_applySetting (x : ClimateSetting) (b : Block) :
    (applySetting x b).vital = b.vital := by
  unfold applySetting
  split <;> simp

@[simp] theorem vital_stepWrite (x : Step) (b : Block) : (stepWrite x b).vital = b.vital := by
  unfold stepWrite
  split <;> simp

@[simp] theorem vital_writeOutput (u : Nat) (b : Block) : (writeOutput u b).vital = b.vital := by
  simp [writeOutput]

@[simp] theorem vital_commandMoistureFlap (mm : Option Int) (b : Block) :
    (commandMoistureFlap mm b).vital = b.vital := by
  unfold commandMoistureFlap
  split
  · rfl
  split <;> simp

@[simp] theorem vital_controlPeriod (tm : Int) (b : Block) :
    (controlPeriod tm b).vital = b.vital := by simp [controlPeriod]

/-! ### Descale -/

@[simp] theorem vital_setKept (k : DescaleRec) (b : Block) : (setKept k b).vital = b.vital := by
  simp [setKept]

@[simp] theorem vital_setPhase (p : DescalePhase) (b : Block) : (setPhase p b).vital = b.vital := by
  simp [setPhase]

@[simp] theorem vital_giveHeater (w : Nat) (b : Block) : (giveHeater w b).vital = b.vital := by
  simp only [giveHeater]
  split <;> simp

@[simp] theorem vital_claimDescaleDrain (b : Block) : (claimDescaleDrain b).vital = b.vital := by
  unfold claimDescaleDrain
  split
  · split
    next h => simp [vital_claim h]
    next => rfl
  · rfl

@[simp] theorem vital_waterWait (w : WaterWait) (b : Block) : (waterWait w b).vital = b.vital := by
  unfold waterWait
  split <;> simp

@[simp] theorem vital_enterSoak (b : Block) : (enterSoak b).vital = b.vital := by simp [enterSoak]

@[simp] theorem vital_leaveSoak (b : Block) : (leaveSoak b).vital = b.vital := by simp [leaveSoak]

@[simp] theorem vital_enterRinseHold (b : Block) : (enterRinseHold b).vital = b.vital := by
  simp [enterRinseHold]

@[simp] theorem vital_descaleFillDone (b : Block) : (descaleFillDone b).vital = b.vital := by
  unfold descaleFillDone
  split <;> simp

@[simp] theorem vital_releaseDescale (c : Channel) (b : Block) :
    (releaseDescale c b).vital = b.vital := by simp [releaseDescale]

@[simp] theorem vital_descaleFillEnd (reason : EndReason) (b : Block) :
    (descaleFillEnd reason b).vital = b.vital := by
  unfold descaleFillEnd
  split <;> simp

@[simp] theorem vital_claimDescaleFill (b : Block) : (claimDescaleFill b).vital = b.vital := by
  unfold claimDescaleFill
  split
  · split
    next h => rw [apply_ite Block.vital]; simp [vital_claim h]
    next => rfl
  · rfl

@[simp] theorem vital_claimPhaseTransfer (b : Block) : (claimPhaseTransfer b).vital = b.vital := by
  unfold claimPhaseTransfer
  split <;> simp

@[simp] theorem vital_enterAddAgent (b : Block) : (enterAddAgent b).vital = b.vital := by
  simp [enterAddAgent]

@[simp] theorem vital_enterRefillClean (b : Block) : (enterRefillClean b).vital = b.vital := by
  simp [enterRefillClean]

@[simp] theorem vital_enterDrainPhase (p : DescalePhase) (b : Block) :
    (enterDrainPhase p b).vital = b.vital := by simp [enterDrainPhase]

@[simp] theorem vital_enterRinseFill (b : Block) : (enterRinseFill b).vital = b.vital := by
  simp [enterRinseFill]

@[simp] theorem vital_enterAgentFill (b : Block) : (enterAgentFill b).vital = b.vital := by
  simp [enterAgentFill]

@[simp] theorem vital_examineDrainOld (b : Block) : (examineDrainOld b).vital = b.vital := by
  simp [examineDrainOld]

@[simp] theorem vital_faultIfOvertemp (b : Block) : (faultIfOvertemp b).vital = b.vital := by
  simp [faultIfOvertemp]

@[simp] theorem vital_endDescale (b : Block) : (endDescale b).vital = b.vital := by
  unfold endDescale
  extract_lets done d1 d2 d3 _ d4 d5
  have h3 : d3.vital = b.vital := (vital_ite _ _ _).trans (by simp [d2, d1])
  have h4 : d4.vital = b.vital := (vital_setGen rfl rfl).trans h3
  have h5 : d5.vital = b.vital := (vital_ite _ _ _).trans (by simp [h4])
  exact (vital_faultIfOvertemp _).trans ((vital_setClimate rfl).trans h5)

@[simp] theorem vital_rinseDone (b : Block) : (rinseDone b).vital = b.vital := by simp [rinseDone]

@[simp] theorem vital_agentDrained (b : Block) : (agentDrained b).vital = b.vital := by
  simp [agentDrained]

@[simp] theorem vital_descaleDrainDone (b : Block) : (descaleDrainDone b).vital = b.vital := by
  unfold descaleDrainDone
  split <;> simp

@[simp] theorem vital_descaleDrainEnd (reason : EndReason) (b : Block) :
    (descaleDrainEnd reason b).vital = b.vital := by
  unfold descaleDrainEnd
  split <;> simp

@[simp] theorem vital_genDrainReport (reason : EndReason) (b : Block) :
    (genDrainReport reason b).vital = b.vital := by simp [genDrainReport]

@[simp] theorem vital_deliverEnd (c : Channel) (reason : EndReason) (b : Block) :
    (deliverEnd c reason b).vital = b.vital := by
  unfold deliverEnd
  split <;> simp

@[simp] theorem vital_endAndDeliver (c : Channel) (reason : EndReason) (b : Block) :
    (endAndDeliver c reason b).vital = b.vital := by simp [endAndDeliver]

@[simp] theorem vital_settleEnded (b : Block) : (settleEnded b).vital = b.vital := by
  simp only [settleEnded]
  split <;> simp

@[simp] theorem vital_soakSample (v : Int) (b : Block) : (soakSample v b).vital = b.vital := by
  simp [soakSample]

@[simp] theorem vital_descaleWallSample (v : Int) (b : Block) :
    (descaleWallSample v b).vital = b.vital := by simp [descaleWallSample]

@[simp] theorem vital_descaleWallInvalid (b : Block) : (descaleWallInvalid b).vital = b.vital := by
  simp [descaleWallInvalid]

@[simp] theorem vital_completeSoak (b : Block) : (completeSoak b).vital = b.vital := by
  simp [completeSoak]

@[simp] theorem vital_countSoakSecond (b : Block) : (countSoakSecond b).vital = b.vital := by
  simp only [countSoakSecond]
  split
  · simp
  split <;> simp

@[simp] theorem vital_beginDescale (b : Block) : (beginDescale b).vital = b.vital := by
  unfold beginDescale
  extract_lets d1 _ d2 _ d3
  have h3 : d3.vital = b.vital := (vital_setGen rfl rfl).trans (vital_setClimate rfl)
  split
  · exact (vital_setGen rfl rfl).trans h3
  · simp [h3]

@[simp] theorem vital_setAborted (b : Block) : (setAborted b).vital = b.vital := by
  simp [setAborted]

@[simp] theorem vital_stopDescale (c : Channel) (b : Block) :
    (stopDescale c b).vital = b.vital := by simp [stopDescale]

@[simp] theorem vital_abortToRefill (b : Block) : (abortToRefill b).vital = b.vital := by
  simp [abortToRefill]

@[simp] theorem vital_abortDescale (b : Block) : (abortDescale b).vital = b.vital := by
  simp only [abortDescale]
  split
  case h_3 => split <;> simp
  all_goals simp

@[simp] theorem vital_retryDescale (b : Block) : (retryDescale b).vital = b.vital := by
  unfold retryDescale
  split <;> simp

@[simp] theorem vital_retryDescaleEmpty (b : Block) : (retryDescaleEmpty b).vital = b.vital := by
  simp [retryDescaleEmpty]

@[simp] theorem vital_moveTankCycle (f : TankCycle → TankCycle) (b : Block) :
    (moveTankCycle f b).vital = b.vital := by simp [moveTankCycle]

@[simp] theorem vital_descaleDryFire (b : Block) : (descaleDryFire b).vital = b.vital := by
  simp [descaleDryFire]

@[simp] theorem vital_restartPhase (fresh : Bool) (b : Block) :
    (restartPhase fresh b).vital = b.vital := by
  unfold restartPhase
  split
  case h_1 => rfl
  all_goals simp

@[simp] theorem vital_resumeDescale (b : Block) : (resumeDescale b).vital = b.vital := by
  unfold resumeDescale
  split
  · split
    case h_3 => rfl
    all_goals simp
  · simp

/-! ### Runner -/

@[simp] theorem vital_setStep (f : StepFields) (b : Block) : (setStep f b).vital = b.vital := by
  simp [setStep]

@[simp] theorem vital_putHold (h : HoldSet) (b : Block) : (putHold h b).vital = b.vital := by
  simp [putHold]

@[simp] theorem vital_putHoldDoor (v : Bool) (b : Block) : (putHoldDoor v b).vital = b.vital := by
  simp [putHoldDoor]

@[simp] theorem vital_putHoldSilent (v : Bool) (b : Block) :
    (putHoldSilent v b).vital = b.vital := by simp [putHoldSilent]

@[simp] theorem vital_putHoldSensor (v : Bool) (b : Block) :
    (putHoldSensor v b).vital = b.vital := by simp [putHoldSensor]

@[simp] theorem vital_queueCheckpoint (b : Block) : (queueCheckpoint b).vital = b.vital := by
  simp [queueCheckpoint]

@[simp] theorem vital_enterPrompt (x : Step) (b : Block) : (enterPrompt x b).vital = b.vital := by
  simp [enterPrompt]

@[simp] theorem vital_enterActive (x : Step) (b : Block) : (enterActive x b).vital = b.vital := by
  simp [enterActive]

@[simp] theorem vital_enterAfterPreheat (x : Step) (b : Block) :
    (enterAfterPreheat x b).vital = b.vital := by simp [enterAfterPreheat]

@[simp] theorem vital_resetStep (first : Bool) (b : Block) :
    (resetStep first b).vital = b.vital := by simp [resetStep]

@[simp] theorem vital_writeStep (x : Step) (b : Block) : (writeStep x b).vital = b.vital := by
  simp [writeStep]

@[simp] theorem vital_startStep (first : Bool) (b : Block) :
    (startStep first b).vital = b.vital := by
  unfold startStep
  split <;> simp

@[simp] theorem vital_enterRestored (phase : StepPhase) (active heat : Nat) (x : Step) (b : Block) :
    (enterRestored phase active heat x b).vital = b.vital := by
  unfold enterRestored
  split <;> simp

@[simp] theorem vital_restoreStep (phase : StepPhase) (active heat : Nat) (b : Block) :
    (restoreStep phase active heat b).vital = b.vital := by
  unfold restoreStep
  split <;> simp

@[simp] theorem vital_beginRun (delayed : Bool) (b : Block) :
    (beginRun delayed b).vital = b.vital := by simp [beginRun]

@[simp] theorem vital_withdrawStep (b : Block) : (withdrawStep b).vital = b.vital := by
  simp [withdrawStep]

@[simp] theorem vital_closeStep (reason : StepEnd) (b : Block) :
    (closeStep reason b).vital = b.vital := by simp [closeStep]

@[simp] theorem vital_closeEndingStep (reason : RunEnd) (b : Block) :
    (closeEndingStep reason b).vital = b.vital := by simp [closeEndingStep]

@[simp] theorem vital_markLamp (reason : RunEnd) (b : Block) :
    (markLamp reason b).vital = b.vital := by simp [markLamp]

@[simp] theorem vital_releaseClimate (b : Block) : (releaseClimate b).vital = b.vital := by
  simp [releaseClimate]

@[simp] theorem vital_endRun (reason : RunEnd) (b : Block) : (endRun reason b).vital = b.vital := by
  simp [endRun]

@[simp] theorem vital_endStep (reason : StepEnd) (b : Block) :
    (endStep reason b).vital = b.vital := by simp [endStep]

@[simp] theorem vital_steamHold (x : Step) (b : Block) : (steamHold x b).vital = b.vital := by
  simp [steamHold]

@[simp] theorem vital_probeHold (x : Step) (b : Block) : (probeHold x b).vital = b.vital := by
  simp only [probeHold]
  split
  · split
    · split <;> simp
    · split <;> simp
  · rfl

@[simp] theorem vital_countDoorSecond (b : Block) : (countDoorSecond b).vital = b.vital := by
  simp [countDoorSecond]

@[simp] theorem vital_preheatSecond (x : Step) (b : Block) :
    (preheatSecond x b).vital = b.vital := by
  simp only [preheatSecond]
  split
  · simp
  split <;> simp

@[simp] theorem vital_countActive (x : Step) (b : Block) : (countActive x b).vital = b.vital := by
  simp [countActive]

@[simp] theorem vital_activeSecond (x : Step) (b : Block) : (activeSecond x b).vital = b.vital := by
  simp only [activeSecond]
  split
  · simp
  split <;> simp

@[simp] theorem vital_phaseSecond (x : Step) (b : Block) : (phaseSecond x b).vital = b.vital := by
  unfold phaseSecond
  split <;> simp

@[simp] theorem vital_countSensor (b : Block) : (countSensor b).vital = b.vital := by
  simp [countSensor]

@[simp] theorem vital_stepSecond (b : Block) : (stepSecond b).vital = b.vital := by
  unfold stepSecond
  split <;> simp

@[simp] theorem vital_runDoorOpened (b : Block) : (runDoorOpened b).vital = b.vital := by
  simp [runDoorOpened]

@[simp] theorem vital_runDoorClosed (b : Block) : (runDoorClosed b).vital = b.vital := by
  simp [runDoorClosed]

@[simp] theorem vital_promptClosed (b : Block) : (promptClosed b).vital = b.vital := by
  unfold promptClosed
  split <;> simp

@[simp] theorem vital_checkClosed (b : Block) : (checkClosed b).vital = b.vital := by
  simp [checkClosed]

end Sys2Proof.Machine
end

section
/-! SUPPORT. The operations of the events and requests that leave the vital part as it is. -/

namespace Sys2Proof.Machine

@[simp] theorem vital_setShare {p : Share} {b : Block}
    (h : p.loads.mapWith (fun _ o => (o.locks, o.firing)) =
      b.share.loads.mapWith fun _ o => (o.locks, o.firing)) : (setShare p b).vital = b.vital := by
  simp [Block.vital, doorOpen, h]

@[simp] theorem refuse_after (st : Status) (b : Block) : (refuse st b).after = b := rfl
@[simp] theorem answerOk_after (c : Payload) (b : Block) : (answerOk c b).after = b := rfl
@[simp] theorem closed_after (k : AttnKind) (o : CloseOutcome) (b : Block) :
    (closed k o b).after = b := rfl

@[simp] theorem after_ite (c : Prop) {i : Decidable c} (a b : Answer) :
    (if c then a else b).after = if c then a.after else b.after := apply_ite _ _ _ _

@[simp] theorem vital_setSwitches {w : Switches} {b : Block}
    (ha : w.contactA.deb = b.switches.contactA.deb) (hb : w.contactB.deb = b.switches.contactB.deb) :
    (setSwitches w b).vital = b.vital := by
  simp [Block.vital, doorOpen, ha, hb]

/-- An input that keeps its debounced state leaves both door contacts as they are. -/
theorem setSwitch_contacts {i : SwitchInput} {x : Switch} {w : Switches}
    (h : x.deb = (switchOf w i).deb) :
    (setSwitch i x w).contactA.deb = w.contactA.deb ∧
      (setSwitch i x w).contactB.deb = w.contactB.deb := by
  match i with
  | .contact .a => exact ⟨h, rfl⟩
  | .contact .b => exact ⟨rfl, h⟩
  | .tank | .plug | .electrode .low | .electrode .normal | .electrode .high => exact ⟨rfl, rfl⟩

@[simp] theorem vital_setDebounced_tank (v : Bool) (b : Block) :
    (setDebounced .tank v b).vital = b.vital := rfl
@[simp] theorem vital_setDebounced_plug (v : Bool) (b : Block) :
    (setDebounced .plug v b).vital = b.vital := rfl
@[simp] theorem vital_setDebounced_electrode (e : Electrode) (v : Bool) (b : Block) :
    (setDebounced (.electrode e) v b).vital = b.vital := by cases e <;> rfl

/-! ### Ops -/

/-! ### Generator -/

/-! ### Descale -/

/-! ### Event -/

@[simp] theorem vital_restartSilence (b : Block) : (restartSilence b).vital = b.vital := by
  simp [restartSilence]

@[simp] theorem vital_stopSilence (b : Block) : (stopSilence b).vital = b.vital := by
  simp [stopSilence]

@[simp] theorem vital_examineDoorOpen (before : Block) (b : Block) :
    (examineDoorOpen before b).vital = b.vital := by simp [examineDoorOpen]

@[simp] theorem vital_examineSilence (before : Block) (b : Block) :
    (examineSilence before b).vital = b.vital := by simp [examineSilence]

@[simp] theorem vital_dropFrame (b : Block) : (dropFrame b).vital = b.vital := by simp [dropFrame]

@[simp] theorem vital_endSilent (b : Block) : (endSilent b).vital = b.vital := by simp [endSilent]

@[simp] theorem vital_acceptFrame (b : Block) : (acceptFrame b).vital = b.vital := by
  simp [acceptFrame]

@[simp] theorem vital_oweReply (kind : Byte) (st : Status) (content : Payload) (b : Block) :
    (oweReply kind st content b).vital = b.vital := by simp [oweReply]

/-! ### ClimateCommands -/

@[simp] theorem vital_takeClimateSet (x : ClimateSetting) (b : Block) :
    (takeClimateSet x b).vital = b.vital := by simp [takeClimateSet]

@[simp] theorem vital_climateSetRequest (p : Payload) (b : Block) :
    (climateSetRequest p b).after.vital = b.vital := by
  unfold climateSetRequest
  split
  · rfl
  split <;> simp

@[simp] theorem vital_controlExpiry (b : Block) : (controlExpiry b).vital = b.vital := by
  unfold controlExpiry
  split
  · split <;> simp
  · rfl

@[simp] theorem vital_flapEnd (b : Block) : (flapEnd b).vital = b.vital := by
  unfold flapEnd
  split
  · split
    case h_1 | h_2 => simp
    all_goals rfl
  · rfl

/-! ### PowerCommands -/

@[simp] theorem vital_windowExpiry (b : Block) : (windowExpiry b).vital = b.vital := by
  unfold windowExpiry
  split
  · exact vital_setShare rfl
  · rfl

/-! ### GeneratorCommands -/

@[simp] theorem vital_takeGeneratorDrain (b : Block) : (takeGeneratorDrain b).vital = b.vital := by
  simp [takeGeneratorDrain]

@[simp] theorem vital_generatorDrainRequest (p : Payload) (b : Block) :
    (generatorDrainRequest p b).after.vital = b.vital := by simp [generatorDrainRequest]

/-! ### ChannelCommands -/

@[simp] theorem vital_pacing (c : Channel) (b : Block) : (pacing c b).vital = b.vital := by
  simp only [pacing]
  split
  · split <;> simp
  · rfl

@[simp] theorem vital_flowEdge (e : FlowEdge) (b : Block) : (flowEdge e b).vital = b.vital := by
  unfold flowEdge
  split <;> simp

@[simp] theorem vital_pauseTimeout (c : Channel) (b : Block) :
    (pauseTimeout c b).vital = b.vital := by
  simp only [pauseTimeout]
  split <;> simp

/-! ### DescaleCommands -/

@[simp] theorem vital_descaleBeginRequest (p : Payload) (b : Block) :
    (descaleBeginRequest p b).after.vital = b.vital := by simp [descaleBeginRequest]

@[simp] theorem vital_descaleAbortRequest (p : Payload) (b : Block) :
    (descaleAbortRequest p b).after.vital = b.vital := by simp [descaleAbortRequest]

@[simp] theorem vital_soakExpiry (b : Block) : (soakExpiry b).vital = b.vital := by
  simp [soakExpiry]

@[simp] theorem vital_rinseHoldEnd (b : Block) : (rinseHoldEnd b).vital = b.vital := by
  simp [rinseHoldEnd]

/-! ### RecipeCommands -/

@[simp] theorem vital_recipeReadRequest (p : Payload) (b : Block) :
    (recipeReadRequest p b).after.vital = b.vital := by
  simp only [recipeReadRequest, slotRequest]
  split
  · rfl
  split
  · rfl
  split
  · rfl
  split <;> rfl

@[simp] theorem vital_recipeListRequest (p : Payload) (b : Block) :
    (recipeListRequest p b).after.vital = b.vital := by simp [recipeListRequest]

/-! ### RunCommands -/

@[simp] theorem vital_takeRunStart (n : Fin 16) (r : Recipe) (f : StartFields) (b : Block) :
    (takeRunStart n r f b).vital = b.vital := by
  unfold takeRunStart
  extract_lets _ _ _ b1 b2 _ b3
  have h3 : b3.vital = b.vital := vital_setClimate rfl
  split <;> simp [h3]

@[simp] theorem vital_startRecipe (n : Fin 16) (r : Recipe) (f : StartFields) (b : Block) :
    (startRecipe n r f b).after.vital = b.vital := by simp [startRecipe]

@[simp] theorem vital_runStartRequest (p : Payload) (b : Block) :
    (runStartRequest p b).after.vital = b.vital := by
  unfold runStartRequest
  split
  · rfl
  split
  · rfl
  iterate 4
    split
    · rfl
  split <;> simp

@[simp] theorem vital_runPauseRequest (p : Payload) (b : Block) :
    (runPauseRequest p b).after.vital = b.vital := by simp [runPauseRequest]

@[simp] theorem vital_resumeRun (b : Block) : (resumeRun b).vital = b.vital := by simp [resumeRun]

@[simp] theorem vital_runResumeRequest (p : Payload) (b : Block) :
    (runResumeRequest p b).after.vital = b.vital := by simp [runResumeRequest]

@[simp] theorem vital_runAdvanceRequest (p : Payload) (b : Block) :
    (runAdvanceRequest p b).after.vital = b.vital := by simp [runAdvanceRequest]

@[simp] theorem vital_runAbortRequest (p : Payload) (b : Block) :
    (runAbortRequest p b).after.vital = b.vital := by simp [runAbortRequest]

@[simp] theorem vital_stepExpiry (b : Block) : (stepExpiry b).vital = b.vital := by
  simp [stepExpiry]

@[simp] theorem vital_reportTakeRequest (p : Payload) (b : Block) :
    (reportTakeRequest p b).after.vital = b.vital := by
  unfold reportTakeRequest
  split
  · rfl
  split <;> rfl

@[simp] theorem vital_reportClearRequest (p : Payload) (b : Block) :
    (reportClearRequest p b).after.vital = b.vital := by
  unfold reportClearRequest
  split <;> simp

/-! ### AttentionCommands -/

@[simp] theorem vital_attentionPeekRequest (p : Payload) (b : Block) :
    (attentionPeekRequest p b).after.vital = b.vital := by simp [attentionPeekRequest]

@[simp] theorem vital_attentionTakeRequest (p : Payload) (b : Block) :
    (attentionTakeRequest p b).after.vital = b.vital := by
  unfold attentionTakeRequest
  split
  · rfl
  split
  · rfl
  split <;> rfl

@[simp] theorem vital_latchedClosed (k : AttnKind) (b : Block) :
    (latchedClosed k b).vital = b.vital := by simp [latchedClosed]

@[simp] theorem vital_promptAccepted (k : AttnKind) (b : Block) :
    (promptAccepted k b).vital = b.vital := by
  unfold promptAccepted
  split <;> simp

@[simp] theorem vital_closeEntry (k : AttnKind) (b : Block) :
    (closeEntry k b).after.vital = b.vital := by
  unfold closeEntry
  split <;> simp

@[simp] theorem vital_attentionCloseRequest (p : Payload) (b : Block) :
    (attentionCloseRequest p b).after.vital = b.vital := by
  unfold attentionCloseRequest
  iterate 2
    split
    · rfl
  split
  · split <;> simp
  split <;> simp

@[simp] theorem vital_attentionMaskRequest (p : Payload) (b : Block) :
    (attentionMaskRequest p b).after.vital = b.vital := by
  unfold attentionMaskRequest
  split <;> simp

/-! ### StartUp -/

@[simp] theorem vital_clampStartRemainder (b : Block) :
    (clampStartRemainder b).vital = b.vital := by simp [clampStartRemainder]

@[simp] theorem vital_placeDescale (b : Block) : (placeDescale b).vital = b.vital := by
  unfold placeDescale
  split
  · exact (vital_setClimate rfl).trans (vital_setGen rfl rfl)
  · rfl

@[simp] theorem vital_loseRun (k : Checkpoint) (b : Block) : (loseRun k b).vital = b.vital := by
  simp [loseRun]

@[simp] theorem vital_restorePending (k : Checkpoint) (r : Recipe) (b : Block) :
    (restorePending k r b).vital = b.vital := by simp [restorePending]

@[simp] theorem vital_restoreRunning (k : Checkpoint) (r : Recipe) (b : Block) :
    (restoreRunning k r b).vital = b.vital := by simp [restoreRunning]

@[simp] theorem vital_takeSource (b : Block) : (takeSource b).vital = b.vital := by
  simp [takeSource]

@[simp] theorem vital_examineCheckpoint (b : Block) : (examineCheckpoint b).vital = b.vital := by
  unfold examineCheckpoint
  split
  · rfl
  split <;> simp

@[simp] theorem vital_takeReasons (b : Block) : (takeReasons b).vital = b.vital := by
  simp [takeReasons]

@[simp] theorem vital_followLevelFault (b : Block) : (followLevelFault b).vital = b.vital := by
  simp [followLevelFault]

@[simp] theorem vital_resumeRunStep (b : Block) : (resumeRunStep b).vital = b.vital := by
  unfold resumeRunStep
  split <;> simp

@[simp] theorem vital_takeDoorOpen (b : Block) : (takeDoorOpen b).vital = b.vital := by
  simp [takeDoorOpen]

/-! ### SensorCommands -/

@[simp] theorem vital_runSensor (v : Bool) (b : Block) : (runSensor v b).vital = b.vital := by
  simp [runSensor]

@[simp] theorem vital_deliverProbe (d : Delivery) (b : Block) :
    (deliverProbe d b).vital = b.vital := by
  unfold deliverProbe
  split <;> simp

@[simp] theorem vital_deliverMoisture (d : Delivery) (b : Block) :
    (deliverMoisture d b).vital = b.vital := by
  unfold deliverMoisture
  split <;> simp

@[simp] theorem vital_setAnalog (c : AnalogChannel) (a : Analog) (b : Block) :
    (setAnalog c a b).vital = b.vital := by
  unfold setAnalog
  split <;> simp

@[simp] theorem vital_rawChange (i : SwitchInput) (level : Bool) (b : Block) :
    (rawChange i level b).vital = b.vital := by
  simp only [rawChange]
  split
  · rfl
  · obtain ⟨ha, hb⟩ := setSwitch_contacts (i := i) (w := b.switches)
      (x := { switchOf b.switches i with raw := level, timer := some 0 }) rfl
    exact vital_setSwitches ha hb

@[simp] theorem vital_followDisagreement (b : Block) : (followDisagreement b).vital = b.vital := by
  unfold followDisagreement
  extract_lets d _ b1
  have h1 : b1.vital = b.vital := vital_setSwitches rfl rfl
  split <;> simp [h1]

@[simp] theorem vital_disagreementEnd (b : Block) : (disagreementEnd b).vital = b.vital := by
  unfold disagreementEnd
  split
  · exact (vital_raiseSource _ _).trans (vital_setSwitches rfl rfl)
  · rfl

@[simp] theorem vital_mapProbes (f : Analog → Analog) (b : Block) :
    (mapProbes f b).vital = b.vital := by simp [mapProbes]

@[simp] theorem vital_startProbes (b : Block) : (startProbes b).vital = b.vital := by
  simp [startProbes]

/-! ### StoreCommands -/

@[simp] theorem vital_advanceClock (b : Block) : (advanceClock b).vital = b.vital := by
  simp [advanceClock]

@[simp] theorem vital_clockReadRequest (p : Payload) (b : Block) :
    (clockReadRequest p b).after.vital = b.vital := by simp [clockReadRequest]

@[simp] theorem vital_applyKf (new : Nat) (b : Block) : (applyKf new b).vital = b.vital := by
  simp [applyKf]

@[simp] theorem vital_applyPrescale (new : Nat) (b : Block) :
    (applyPrescale new b).vital = b.vital := by
  unfold applyPrescale
  split <;> simp

@[simp] theorem vital_settingsReadRequest (p : Payload) (b : Block) :
    (settingsReadRequest p b).after.vital = b.vital := by simp [settingsReadRequest]

@[simp] theorem vital_stopLink (b : Block) : (stopLink b).vital = b.vital := by simp [stopLink]

@[simp] theorem vital_stopTimers (b : Block) : (stopTimers b).vital = b.vital := by
  exact (vital_setClimate rfl).trans (vital_setShare rfl)

/-! ### LinkCommands -/

@[simp] theorem vital_identRequest (p : Payload) (b : Block) :
    (identRequest p b).after.vital = b.vital := by simp [identRequest]

@[simp] theorem vital_statusRequest (p : Payload) (b : Block) :
    (statusRequest p b).after.vital = b.vital := by simp [statusRequest]

@[simp] theorem vital_restartRequest (p : Payload) (b : Block) :
    (restartRequest p b).after.vital = b.vital := by simp [restartRequest]

@[simp] theorem vital_standbyAnswer (b : Block) : (standbyAnswer b).after.vital = b.vital := by
  simp [standbyAnswer]

@[simp] theorem vital_unknownRequest (b : Block) : (unknownRequest b).after.vital = b.vital := by
  simp [unknownRequest]

@[simp] theorem vital_otherByte (x : Byte) (b : Block) : (otherByte x b).vital = b.vital := by
  unfold otherByte
  split
  case h_2 => split <;> simp
  case h_4 => split <;> simp
  all_goals simp

@[simp] theorem vital_dropInProgress (b : Block) : (dropInProgress b).vital = b.vital := by
  simp [dropInProgress]

@[simp] theorem vital_addSilent (b : Block) : (addSilent b).vital = b.vital := by simp [addSilent]

@[simp] theorem vital_silenceMark (b : Block) : (silenceMark b).vital = b.vital := by
  simp [silenceMark]

@[simp] theorem vital_giveUp (b : Block) : (giveUp b).vital = b.vital := by simp [giveUp]

end Sys2Proof.Machine
end

section
/-! SUPPORT. What a command can do to the vital part, said once: a property that its updates keep is kept. -/

namespace Sys2Proof.Machine

/-! ### Updates of the vital part -/

/-- A lock put into a load's set, or taken out of it (R36, R40). -/
def putLock (i : Interlock) (v : Bool) (o : LockSet × Bool) : LockSet × Bool :=
  (o.1.put i v, if v && o.1.isClear then false else o.2)

/-- The vital part with an interlock set, or cleared. -/
def Vital.lock (i : Interlock) (v : Bool) (x : Vital) : Vital :=
  { x with outputs := x.outputs.mapWith fun l o => if i.covers l then putLock i v o else o }

theorem lock_output (i : Interlock) (o : LoadOut) :
    ((o.lock i).locks, (o.lock i).firing) = putLock i true (o.locks, o.firing) := by
  unfold LoadOut.lock putLock
  split <;> simp_all

@[simp] theorem PerLoad.get_mapWith {α β : Type} (f : Load → α → β) (x : PerLoad α) (l : Load) :
    (x.mapWith f).get l = f l (x.get l) := by cases l <;> rfl

theorem PerLoad.mapWith_congr {α β : Type} {f g : Load → α → β} {x : PerLoad α}
    (h : ∀ l o, f l o = g l o) : x.mapWith f = x.mapWith g := by
  simp [PerLoad.mapWith, h]

theorem PerLoad.mapWith_mapWith {α β γ : Type} (g : Load → β → γ) (f : Load → α → β)
    (x : PerLoad α) : (x.mapWith f).mapWith g = x.mapWith fun l o => g l (f l o) := rfl

@[simp] theorem vital_setInterlock (i : Interlock) (b : Block) :
    (setInterlock i b).vital = b.vital.lock i true := by
  have h : ((setInterlock i b).share.loads.mapWith fun _ o => (o.locks, o.firing)) =
      (b.share.loads.mapWith fun _ o => (o.locks, o.firing)).mapWith fun l o =>
        if i.covers l then putLock i true o else o := by
    simp only [setInterlock_loads, PerLoad.mapWith_mapWith]
    refine PerLoad.mapWith_congr fun l o => ?_
    split
    · exact lock_output i o
    · rfl
  simp only [Block.vital, Vital.lock, h]
  rfl

@[simp] theorem vital_clearInterlock (i : Interlock) (b : Block) :
    (clearInterlock i b).vital = b.vital.lock i false := by
  have h : ((clearInterlock i b).share.loads.mapWith fun _ o => (o.locks, o.firing)) =
      (b.share.loads.mapWith fun _ o => (o.locks, o.firing)).mapWith fun l o =>
        if i.covers l then putLock i false o else o := by
    simp only [clearInterlock_loads, PerLoad.mapWith_mapWith]
    refine PerLoad.mapWith_congr fun l o => ?_
    split <;> rfl
  simp only [Block.vital, Vital.lock, h]
  rfl

@[simp] theorem vital_followInterlock (i : Interlock) (v : Bool) (b : Block) :
    (followInterlock i v b).vital = b.vital.lock i v := by
  cases v <;> simp [followInterlock]

theorem vital_level (l : Level) (b : Block) :
    (setGen { b.gen with level := l } b).vital = { b.vital with level := l } := rfl

theorem vital_setLife (x : Life) (b : Block) : (setLife x b).vital = { b.vital with life := x } :=
  rfl

/-! ### The updates that a sound part survives -/

/-- A property that rests on the vital part alone and that every update of that part keeps, as the
commands make them: power and life, the retained store, the settings, each interlock together with
its condition, a half-cycle, a start. -/
structure Steady (P : Block → Prop) : Prop where
  ofVital : ∀ {a b : Block}, b.vital = a.vital → P a → P b
  woken : ∀ (c : WakeCause) {b : Block}, P b → P (wake c b)
  rested : ∀ {b : Block}, P b → P (enterStandby b)
  power : ∀ (p : PowerState) {b : Block}, p ≠ .standby → b.life.power ≠ .standby → P b →
    P (setLife { b.life with power := p } b)
  life : ∀ (x : Life) {b : Block}, x.power = b.life.power → live (setLife x b) = live b → P b →
    P (setLife x b)
  flushed : ∀ (x : Life) {b : Block}, x.power = b.life.power → live (setLife x b) = false → P b →
    P (setLife x (setInterlock .mainsLoss b))
  queued : ∀ (w : Write) {b : Block}, w.record ≠ .settings → P b → P (queueWrite w b)
  served : ∀ {b : Block}, P b → P (serveStore b)
  committed : ∀ (w : Write) {b : Block}, b.store.inFlight = some w → P b →
    P (setStore { b.store.commit w with inFlight := none } b)
  budgeted : ∀ (n m : Nat) {b : Block}, 1200 ≤ n ∧ n ≤ budgetMax b.straps.mains → m ≤ 7 → P b →
    P (queueSettings (setSettings { b.settings with budget := n, shed := m } b))
  configured : ∀ (v : Settings) {b : Block}, v.InRange →
    1200 ≤ v.budget ∧ v.budget ≤ budgetMax b.straps.mains → P b →
    P (queueSettings (setSettings v b))
  heated : ∀ {b : Block}, P b →
    P (setInterlock .overtemp (setClimate { b.climate with overtemp := true } b))
  cooled : ∀ {b : Block}, P b →
    P (clearInterlock .overtemp (setClimate { b.climate with overtemp := false } b))
  fired : ∀ {b : Block}, P b →
    P (setInterlock .dryFire (setGen { b.gen with dryFire := true } b))
  unfired : ∀ {b : Block}, P b →
    P (clearInterlock .dryFire (setGen { b.gen with dryFire := false } b))
  leveled : ∀ (l : Level) {b : Block}, P b →
    P (followInterlock .dryLevel (decide (l = .dry)) (setGen { b.gen with level := l } b))
  contacts : ∀ (w : Switches) {b : Block}, P b →
    P (followInterlock .door (doorOpen (setSwitches w b)) (setSwitches w b))
  crossed : ∀ {b : Block}, P b → P (halfCycle b)
  started : ∀ (cause : StartCause) (v : Straps) (pins : StrapPins) (x : StartInputs) {b : Block},
    P b → P (startUp cause v pins x b)

namespace Steady

variable {P : Block → Prop} (hP : Steady P)
include hP

/-! ### The end of an event, requests -/

theorem examineDescaleWrite (before : Block) {b : Block} (hb : P b) :
    P (examineDescaleWrite before b) := by
  unfold Machine.examineDescaleWrite
  split
  · exact hb
  · exact hP.queued _ (by simp [Write.record]) hb

theorem examineStandby (before : Block) {b : Block} (hb : P b) : P (examineStandby before b) := by
  unfold Machine.examineStandby
  split
  · exact hb
  next hp =>
    have hr : b.life.power = .standbyRequested := not_not.mp hp
    split
    · exact hP.power .awake (by decide) (by simp [hr]) hb
    split
    · exact hP.rested hb
    · exact hb

theorem examineStore (before : Block) {b : Block} (hb : P b) : P (examineStore before b) := by
  unfold Machine.examineStore
  split
  · exact hb
  · exact hP.served hb

theorem finishEvent (before : Block) {b : Block} (hb : P b) : P (finishEvent before b) :=
  hP.examineStore _ (hP.examineStandby _ (hP.ofVital (vital_examineSilence _ _)
    (hP.examineDescaleWrite _ (hP.ofVital (vital_examineDoorOpen _ _) hb))))

theorem event {f : Block → Block} (hf : ∀ b, P b → P (f b)) {b : Block} (hb : P b) :
    P (event f b) := by
  unfold Machine.event
  split
  · exact hP.finishEvent _ (hf _ hb)
  · exact hb

theorem event_of_vital {f : Block → Block} (hf : ∀ b, (f b).vital = b.vital) {b : Block}
    (hb : P b) : P (Machine.event f b) :=
  hP.event (fun b hb => hP.ofVital (hf b) hb) hb

omit hP in
theorem wake_power (c : WakeCause) (b : Block) : (wake c b).life.power ≠ .standby := by
  unfold wake
  split
  · simp
  · assumption

theorem request (kind : Byte) {handler : Block → Answer}
    (hh : ∀ b, b.life.power ≠ .standby → P b → P (handler b).after) {b : Block} (hb : P b) :
    P (request kind handler b) := by
  unfold Machine.request
  split
  · exact hb
  have hw := hP.woken .link hb
  split
  · exact hP.finishEvent _ (hP.ofVital (vital_dropFrame _) hw)
  · have hl : (acceptFrame (wake .link b)).life = (wake .link b).life :=
      congrArg Vital.life (vital_acceptFrame _)
    exact hP.finishEvent _ (hP.ofVital (vital_oweReply _ _ _ _)
      (hh _ (hl ▸ wake_power _ _) (hP.ofVital (vital_acceptFrame _) hw)))

/-! ### The requests that reach the vital part -/

theorem standbyRequest (p : Payload) {b : Block} (ha : b.life.power ≠ .standby) (hb : P b) :
    P (standbyRequest p b).after := by
  unfold Machine.standbyRequest
  split
  · exact hb
  split
  · exact hb
  split
  case h_1 => exact hP.rested hb
  case h_2 | h_3 => exact hP.power .standbyRequested (by decide) ha hb
  all_goals exact hb

theorem clearOvertemp {b : Block} (hb : P b) : P (clearOvertemp b) := by
  unfold Machine.clearOvertemp
  extract_lets _ c
  have hc : P c := hP.cooled hb
  split
  · exact hP.ofVital (vital_enterOff _) hc
  · exact hc

theorem climateOffRequest (p : Payload) {b : Block} (hb : P b) :
    P (climateOffRequest p b).after := by
  unfold Machine.climateOffRequest
  split
  · exact hb
  split
  · split
    · exact hP.clearOvertemp hb
    · exact hb
  split
  · exact hb
  split
  · exact hb
  · exact hP.ofVital (vital_enterOff _) hb

omit hP in
theorem clampBudget_range (m : MainsClass) (n : Nat) :
    1200 ≤ clampBudget m n ∧ clampBudget m n ≤ budgetMax m := by
  unfold clampBudget clampNat
  cases m <;> simp [budgetMax]

theorem budgetSetRequest (p : Payload) {b : Block} (hb : P b) :
    P (budgetSetRequest p b).after := by
  unfold Machine.budgetSetRequest
  split
  · exact hb
  · exact hP.budgeted _ _ (clampBudget_range _ _) (min_le_left _ _) hb

omit hP in
theorem settingsFields_inRange {m : MainsClass} {p : Payload} {v : Settings}
    (h : settingsFields m p = some v) :
    v.InRange ∧ 1200 ≤ v.budget ∧ v.budget ≤ budgetMax m := by
  simp only [settingsFields, Option.pure_def, Option.bind_eq_bind, Option.bind_eq_some_iff,
    Option.some.injEq] at h
  obtain ⟨e, -, l, -, rfl⟩ := h
  refine ⟨⟨min_le_left _ _, min_le_left _ _, ?_, ?_, ?_, min_le_left _ _, ?_⟩, clampBudget_range _ _⟩
  · simp only [clampNat]; omega
  · simp only [clampPrescale]; split_ifs <;> simp
  · simp only [clampNat]; omega
  · simp only [clampInt]; omega

theorem settingsWriteRequest (p : Payload) {b : Block} (hb : P b) :
    P (settingsWriteRequest p b).after := by
  unfold Machine.settingsWriteRequest
  split
  · exact hb
  split
  · exact hb
  next v hv =>
    obtain ⟨hr, hm⟩ := settingsFields_inRange hv
    have he : (applyPrescale v.prescale (applyKf v.kf b)).vital = b.vital := by simp
    have hs : (applyPrescale v.prescale (applyKf v.kf b)).straps = b.straps :=
      congrArg Vital.straps he
    exact hP.configured v hr (hs ▸ hm) (hP.ofVital he hb)

theorem clearDryFire {b : Block} (hb : P b) : P (clearDryFire b) := by
  unfold Machine.clearDryFire
  extract_lets _ c
  have hc : P c := hP.unfired hb
  split <;> exact hP.ofVital (by simp) hc

theorem generatorClearRequest (p : Payload) {b : Block} (hb : P b) :
    P (generatorClearRequest p b).after := by
  unfold Machine.generatorClearRequest
  split
  · exact hb
  split
  · exact hb
  split
  · exact hP.clearDryFire hb
  · exact hb

theorem recipeStoreRequest (p : Payload) {b : Block} (hb : P b) :
    P (recipeStoreRequest p b).after := by
  unfold Machine.recipeStoreRequest
  split
  · exact hb
  split
  · exact hb
  split
  · exact hb
  split
  case h_3 => exact hP.queued _ (by simp [Write.record]) hb
  all_goals exact hb

theorem recipeEraseRequest (p : Payload) {b : Block} (hb : P b) :
    P (recipeEraseRequest p b).after := by
  unfold Machine.recipeEraseRequest slotRequest
  split
  · exact hb
  split
  · exact hb
  split
  · exact hb
  dsimp only
  split
  · exact hb
  · exact hP.queued _ (by simp [Write.record]) hb

theorem startIfDue {b : Block} (hb : P b) : P (startIfDue b) := by
  unfold Machine.startIfDue
  split
  · split
    · exact hb
    · exact hP.ofVital (vital_beginRun _ _) (hP.woken _ hb)
  · exact hb

theorem clockSetRequest (p : Payload) {b : Block} (hb : P b) : P (clockSetRequest p b).after := by
  unfold Machine.clockSetRequest
  split
  · exact hb
  split
  · exact hb
  · exact hP.startIfDue (hP.ofVital (a := b) rfl hb)

theorem handlerOf (kind : Byte) (p : Payload) (b : Block) (ha : b.life.power ≠ .standby)
    (hb : P b) : P (handlerOf kind p b).after := by
  refine handlerOf_ind (Q := fun f => P (f b).after) kind p ?_ hb
  simp only [catalogue, List.forall_mem_cons, List.not_mem_nil, false_imp_iff, implies_true,
    and_true]
  have quiet : ∀ {f : Payload → Block → Answer}, (f p b).after.vital = b.vital → P (f p b).after :=
    fun h => hP.ofVital h hb
  exact ⟨quiet (by simp), quiet (by simp), quiet (by simp), hP.standbyRequest p ha hb,
    quiet (by simp), hP.climateOffRequest p hb, hP.budgetSetRequest p hb, quiet (by simp),
    hP.generatorClearRequest p hb, quiet (by simp), quiet (by simp), hP.recipeStoreRequest p hb,
    quiet (by simp), hP.recipeEraseRequest p hb, quiet (by simp), quiet (by simp),
    quiet (by simp), quiet (by simp), quiet (by simp), quiet (by simp), quiet (by simp),
    quiet (by simp), quiet (by simp), quiet (by simp), quiet (by simp), quiet (by simp),
    hP.clockSetRequest p hb, quiet (by simp), hP.settingsWriteRequest p hb, quiet (by simp)⟩

/-! ### Samples -/

theorem overtemperature {b : Block} (hb : P b) : P (overtemperature b) := by
  unfold Machine.overtemperature
  extract_lets _ b1 b2 b3
  have h2 : P b2 := hP.ofVital (vital_zeroDemand _) (hP.heated hb)
  have h3 : P b3 := Closed.ite h2 (hP.ofVital (vital_enterFault _) h2)
  exact hP.ofVital ((vital_raiseAttn _ _ _).trans (vital_endRun _ _)) h3

theorem dryFire {b : Block} (hb : P b) : P (dryFire b) := by
  unfold Machine.dryFire
  extract_lets _ b1 b2 b3
  have h2 : P b2 := hP.fired hb
  exact hP.ofVital (by simp [b3]) h2

theorem cavitySample (v : Int) {b : Block} (hb : P b) : P (cavitySample v b) := by
  unfold Machine.cavitySample
  split
  · exact hP.overtemperature hb
  · exact hb

theorem deliverCavity (d : Delivery) {b : Block} (hb : P b) : P (deliverCavity d b) := by
  unfold Machine.deliverCavity
  split
  · exact hb
  · exact hP.cavitySample _ hb
  · exact hP.cavitySample _ (hP.ofVital (a := b) (by simp) hb)
  · exact hP.ofVital (a := b) (by simp) hb
  · exact hP.ofVital (vital_raiseSource _ _) hb

theorem wallSample (v : Int) {b : Block} (hb : P b) : P (wallSample v b) := by
  unfold Machine.wallSample
  split
  · exact hP.ofVital (vital_descaleDryFire _) (hP.dryFire hb)
  · exact hP.ofVital (a := b) (by simp) hb

theorem deliverGenerator (d : Delivery) {b : Block} (hb : P b) : P (deliverGenerator d b) := by
  unfold Machine.deliverGenerator
  split
  · exact hb
  · exact hP.wallSample _ hb
  · exact hP.wallSample _ (hP.ofVital (a := b) (by simp) hb)
  · exact hP.ofVital (a := b) (by simp) hb
  · exact hP.ofVital (vital_raiseSource _ _) hb

theorem deliver (c : AnalogChannel) (d : Delivery) {b : Block} (hb : P b) : P (deliver c d b) := by
  unfold Machine.deliver
  split
  · exact hP.deliverCavity _ hb
  · exact hP.deliverGenerator _ hb
  · exact hP.ofVital (vital_deliverProbe _ _) hb
  · exact hP.ofVital (vital_deliverProbe _ _) hb
  · exact hP.ofVital (vital_deliverProbe _ _) hb
  · exact hP.ofVital (vital_deliverMoisture _ _) hb

theorem sampleChannel (c : AnalogChannel) (s : Sample) {b : Block} (hb : P b) :
    P (sampleChannel c s b) := by
  unfold Machine.sampleChannel
  exact hP.deliver _ _ (hP.ofVital (vital_setAnalog _ _ _) hb)

theorem takeSamples (x : Samples) {b : Block} (hb : P b) : P (takeSamples x b) := by
  unfold Machine.takeSamples sampleProbes
  have h2 := hP.sampleChannel .generator x.generator (hP.sampleChannel .cavity x.cavity hb)
  exact hP.sampleChannel _ _ (Closed.ite
    (hP.sampleChannel _ _ (hP.sampleChannel _ _ (hP.sampleChannel _ _ h2))) h2)

/-! ### Switches -/

omit hP in
theorem debounced (i : SwitchInput) (level : Bool) {settle change : Block → Block} {b : Block}
    (hs : P (settle (setDebounced i level b))) (hc : P (change (setDebounced i level b)))
    (hb : P b) : P (debounced i level settle change b) := by
  unfold Machine.debounced
  dsimp only
  exact Closed.ite hb (Closed.ite hs (Closed.ite hb hc))

theorem contactSettled (c : Contact) (v : Bool) {b : Block} (hb : P b) :
    P (contactSettled (setDebounced (.contact c) v b)) := by
  refine hP.ofVital ?_ (hP.contacts (setSwitch (.contact c)
    ((switchOf b.switches (.contact c)).taken v) b.switches) hb)
  unfold Machine.contactSettled
  rw [vital_followInterlock, vital_followInterlock, vital_putDoorReason]
  rfl

omit hP in
theorem wake_setSwitches (c : WakeCause) (w : Switches) (b : Block) :
    wake c (setSwitches w b) = setSwitches w (wake c b) := by
  unfold wake
  split
  next h => rw [if_pos (show b.life.power = .standby from h)]; rfl
  next h => rw [if_neg (show ¬ b.life.power = .standby from h)]

omit hP in
theorem vital_doorOpened (b : Block) : (doorOpened b).vital = (setInterlock .door b).vital := by
  exact ((vital_runDoorOpened _).trans (vital_putDoorReason _ _)).trans (vital_setClimate rfl)

omit hP in
theorem vital_doorClosed (b : Block) : (doorClosed b).vital = (clearInterlock .door b).vital := by
  simp [doorClosed]

theorem contactChange (w : Switches) {b : Block} (hb : P b) :
    P (contactChange (doorOpen b) (setSwitches w b)) := by
  unfold Machine.contactChange
  extract_lets b1
  have hv : b1.vital = (setSwitches w (wake .door b)).vital := by
    rw [← wake_setSwitches]
    exact vital_followDisagreement _
  have hd : doorOpen b1 = doorOpen (setSwitches w (wake .door b)) := congrArg Vital.doorOpen hv
  have hc := hP.contacts w (hP.woken .door hb)
  split
  next h =>
    have hw : doorOpen (wake .door b) = doorOpen b := by unfold wake; split <;> rfl
    refine hP.ofVital (hv.trans ?_) (hP.woken .door hb)
    simp only [Block.vital, Vital.mk.injEq]
    exact ⟨rfl, rfl, rfl, rfl, hd.symm.trans (h.symm.trans hw.symm), rfl, rfl, rfl, rfl⟩
  next =>
    rw [← hd] at hc
    split
    next ho =>
      rw [ho] at hc
      exact hP.ofVital (by rw [vital_doorOpened, vital_setInterlock, hv]; simp) hc
    next ho =>
      rw [Bool.not_eq_true] at ho
      rw [ho] at hc
      exact hP.ofVital (by rw [vital_doorClosed, vital_clearInterlock, hv]; simp) hc

theorem tankInserted {b : Block} (hb : P b) : P (tankInserted b) :=
  hP.ofVital (by simp [Machine.tankInserted]) (hP.woken .tank hb)

theorem tankRemoved {b : Block} (hb : P b) : P (tankRemoved b) :=
  hP.ofVital (by simp [Machine.tankRemoved]) (hP.woken .tank hb)

theorem probeUnplugged {b : Block} (hb : P b) : P (probeUnplugged b) :=
  hP.ofVital (by simp [Machine.probeUnplugged]) (hP.woken .probe hb)

theorem electrodeSettled {b : Block} (hb : P b) : P (electrodeSettled b) := hP.leveled _ hb

theorem levelChange (l : Level) {b : Block} (hb : P b) : P (levelChange l b) := by
  unfold Machine.levelChange
  split
  · exact hb
  · extract_lets _ b1 b2 b3 b4
    have h2 : P b2 := hP.leveled l hb
    have h4 : b4.vital = b2.vital := (vital_ite _ _ _).trans (by simp [b3])
    exact hP.ofVital ((vital_setChannel _ _ _).trans h4) h2

theorem electrodeChanged {b : Block} (hb : P b) : P (electrodeChanged b) :=
  hP.levelChange _ (hP.ofVital (vital_followLevelFault _) hb)

/-! ### The end of start-up -/

theorem takeSwitches {b : Block} (hb : P b) : P (takeSwitches b) := by
  have hd := hP.contacts b.switches hb
  refine hP.ofVital ?_ (hP.leveled (derivedLevel b.switches) hd)
  refine (vital_setSwitches rfl rfl).trans ?_
  simp only [vital_followInterlock, vital_level]
  rfl

omit hP in
theorem live_settling (n : Option Nat) (b : Block) :
    live (setLife { b.life with settling := n } b) = live b := rfl

theorem endStartUp {b : Block} (hb : P b) : P (endStartUp b) := by
  unfold Machine.endStartUp
  extract_lets b1 b2 b3 _ b4
  have h1 : P b1 := hP.ofVital (a := Machine.takeSwitches b) (by simp [b1]) (hP.takeSwitches hb)
  have h2 : P b2 := hP.ofVital (a := b1) (by simp [b2]) h1
  have h3 : P b3 := hP.ofVital (vital_takeDoorOpen _) (hP.startIfDue h2)
  have h4 : P b4 := hP.ofVital (vital_setShare rfl) h3
  exact hP.life _ rfl (live_settling _ _) h4

theorem sampling (x : Samples) {b : Block} (hb : P b) : P (sampling x b) := by
  unfold Machine.sampling countSettling
  have h := hP.takeSamples x hb
  split
  · exact h
  split
  · exact hP.life _ rfl (live_settling _ _) h
  · exact hP.endStartUp h

end Steady
end Sys2Proof.Machine
end

section
/-! SUPPORT. Every command and every step keeps a property that the updates of the vital part keep. -/

namespace Sys2Proof.Machine
namespace Steady

variable {P : Block → Prop} (hP : Steady P)
include hP

/-! ### The clock, the link -/

theorem clockAdvance {b : Block} (hb : P b) : P (clockAdvance b) := by
  unfold Machine.clockAdvance
  extract_lets b1
  have h1 : P b1 := hP.ofVital (a := b) rfl hb
  exact Closed.ite (hP.finishEvent _ (hP.startIfDue h1)) h1

theorem frameDropped {b : Block} (hb : P b) : P (frameDropped b) :=
  Closed.ite (hP.finishEvent _ (hP.ofVital (vital_dropFrame _) (hP.woken _ hb))) hb

theorem lineDrop {b : Block} (hb : P b) : P (lineDrop b) :=
  Closed.ite (hP.finishEvent _ (hP.ofVital (vital_dropInProgress _) hb)) hb

theorem badStopByte {b : Block} (hb : P b) : P (badStopByte b) :=
  Closed.ite hb (Closed.ite (hP.finishEvent _ (hP.ofVital (vital_setLink _ _) (hP.woken .link hb)))
    (hP.finishEvent _ (hP.ofVital (vital_dropInProgress _) hb)))

theorem lineByte (x : Byte) {b : Block} (hb : P b) : P (lineByte x b) := by
  unfold Machine.lineByte
  split
  · exact hb
  split
  · exact hP.finishEvent _ (hP.ofVital (vital_setLink _ _) (hP.woken .link hb))
  split
  · exact hP.request _ (hP.handlerOf _ _) hb
  · exact hP.finishEvent _ (hP.ofVital (vital_otherByte _ _) hb)

omit hP in
theorem vital_shutDown (r : EndReason) (b : Block) :
    (shutDown r b).vital = (setInterlock .mainsLoss b).vital := by
  simp [shutDown]

/-- A part that shuts down with a life record that is at work no more. -/
theorem shutDown (r : EndReason) (x : Life) {b c : Block} (hx : x.power = b.life.power)
    (hl : live (setLife x b) = false) (hc : c.vital = (Machine.shutDown r b).vital) (hb : P b) :
    P (setLife x c) := by
  refine hP.ofVital ?_ (hP.flushed x hx hl hb)
  rw [vital_setLife, vital_setLife, hc, vital_shutDown]

omit hP in
theorem shutDown_life (r : EndReason) (b : Block) : (Machine.shutDown r b).life = b.life :=
  congrArg Vital.life (vital_shutDown r b)

theorem replySent {b : Block} (hb : P b) : P (replySent b) := by
  unfold Machine.replySent
  split
  · extract_lets again b1
    have h1 : P b1 := hP.ofVital (vital_setLink _ _) hb
    refine Closed.ite ?_ h1
    exact hP.shutDown .stopped _ (by rw [shutDown_life]) (by simp [live]) rfl h1
  · exact hb

theorem silenceEnd {b : Block} (hb : P b) : P (silenceEnd b) :=
  Closed.ite (hP.ofVital (vital_setSilence _ _)
    (hP.finishEvent _ (hP.ofVital (vital_giveUp _) hb))) hb

/-! ### The store, the supply, the RESET line -/

theorem warmStart (cause : StartCause) (x : StartInputs) {b : Block} (hb : P b) :
    P (warmStart cause x b) := hP.started _ _ _ _ hb

theorem coldStart (x : ColdInputs) {b : Block} (hb : P b) : P (coldStart x b) :=
  hP.started _ _ _ _ hb

theorem writeComplete {b : Block} (hb : P b) : P (writeComplete b) := by
  unfold Machine.writeComplete
  split
  · exact hb
  next w hw =>
    extract_lets _ b1
    have h1 : P b1 := hP.committed w hw hb
    split
    · have h2 : P (setLife { b1.life with note := .written } b1) := hP.life _ rfl rfl h1
      unfold startIfReleased
      split
      · exact Closed.ite h2 (hP.warmStart _ _ h2)
      · exact h2
    · exact hP.served h1

theorem loseMains {b : Block} (hb : P b) : P (loseMains b) := by
  unfold Machine.loseMains
  split
  · exact hb
  split
  next h => exact hP.life _ rfl (by simp [live, h]) hb
  · extract_lets b1
    have h1 : b1.vital = (Machine.shutDown .interlock b).vital := by simp [b1]
    have hs : b1.life = (Machine.shutDown .interlock b).life := congrArg Vital.life h1
    have hp : b1.life.power = b.life.power := by rw [hs, shutDown_life]
    refine hP.served (hP.shutDown (b := b) (c := b1) .interlock _ ?_ ?_ h1 hb)
    · exact hp
    · simp [live]

theorem beginReset {b : Block} (hb : P b) : P (beginReset b) := by
  unfold Machine.beginReset
  extract_lets b1
  have h1 : b1.vital = (Machine.shutDown .interlock b).vital := by simp [b1]
  have hs : b1.life = (Machine.shutDown .interlock b).life := congrArg Vital.life h1
  have hp : b1.life.power = b.life.power := by rw [hs, shutDown_life]
  refine hP.served (hP.shutDown (b := b) (c := b1) .interlock _ ?_ ?_ h1 hb)
  · exact hp
  · simp [live]

theorem assertReset {b : Block} (hb : P b) : P (assertReset b) := by
  unfold Machine.assertReset
  split
  · exact hb
  split
  next h => exact hP.life _ rfl (by simp [live, h]) hb
  split
  next h => exact hP.life _ rfl (by simp [live, h]) hb
  · exact hP.beginReset hb

theorem coldStartOrWait (x : ColdInputs) {b : Block} (hb : P b) : P (coldStartOrWait x b) :=
  Closed.ite (hP.life _ rfl rfl hb) (hP.coldStart x hb)

theorem zeroCrossing {b : Block} (hb : P b) : P (zeroCrossing b) := by
  unfold Machine.zeroCrossing
  split
  · exact Closed.ite (Closed.ite hb (hP.coldStartOrWait _ hb)) hb
  · exact hP.event (fun _ h => hP.crossed h) hb

theorem supplyUp (x : ColdInputs) {b : Block} (hb : P b) : P (supplyUp x b) :=
  Closed.ite hb (hP.coldStartOrWait x hb)

theorem restartStart (x : StartInputs) {b : Block} (hb : P b) : P (restartStart x b) :=
  Closed.ite (hP.warmStart _ _ hb) hb

/-- A release of the RESET line: what the property must survive is the line's own mark. -/
theorem releaseReset (x : StartInputs) {b : Block} (hb : P b)
    (hr : b.life.resetLine = true → P (setLife { b.life with resetLine := false } b)) :
    P (releaseReset x b) := by
  unfold Machine.releaseReset
  split
  · exact hb
  next h =>
    extract_lets _ b1
    have h1 : P b1 := hr (by simpa using h)
    split
    · exact hP.coldStart _ h1
    · exact Closed.ite h1 (Closed.ite (hP.warmStart _ _ h1) (hP.life _ rfl rfl h1))

/-! ### Every command, and quiet time -/

omit hP in
theorem onBlock_next {f : Block → Block} {s t : State} (h : onBlock f s = .next t) :
    t.toBlock = f s.toBlock := by cases h; rfl

omit hP in
/-- A request does what its KIND's handler does, or the answer to an unknown KIND, or nothing. -/
theorem exec_request {c : Instr} {k : Byte} {p : Payload} (h : requestFrame c = some (k, p))
    (s : State) :
    exec c s = onBlock (Machine.request k (Machine.handlerOf k p)) s ∨
      exec c s = onBlock (Machine.request k unknownRequest) s ∨ exec c s = onBlock id s := by
  cases c <;> cases h
  case unknownKind =>
    by_cases hc : catalogueKinds.contains k = true
    · exact .inr (.inr (by simp only [exec, execUnknownKind, onBlock, hc]; rfl))
    · exact .inr (.inl (by simp only [exec, execUnknownKind, onBlock, hc]; rfl))
  all_goals exact .inl rfl

/-- Every command keeps a steady property; what it must survive besides is the mark of the RESET line. -/
theorem exec {c : Instr} {s t : State} (he : exec c s = .next t) (hs : P s.toBlock)
    (hr : s.life.resetLine = true →
      P (setLife { s.life with resetLine := false } s.toBlock)) : P t.toBlock := by
  have block : ∀ {f : Block → Block}, Machine.exec c s = onBlock f s → P (f s.toBlock) →
      P t.toBlock := fun e h => onBlock_next (e.symm.trans he) ▸ h
  have quiet : ∀ {f : Block → Block}, Machine.exec c s = onBlock (Machine.event f) s →
      (∀ b, (f b).vital = b.vital) → P t.toBlock := fun e h => block e (hP.event_of_vital h hs)
  cases hf : requestFrame c with
  | some x =>
    obtain ⟨k, p⟩ := x
    rcases exec_request hf s with e | e | e
    · exact block e (hP.request _ (hP.handlerOf _ _) hs)
    · exact block e (hP.request _ (fun _ _ h => h) hs)
    · exact block e hs
  | none =>
    cases c with
    | frameCheckFailed => exact block rfl (hP.frameDropped hs)
    | lenOutOfRange => exact block rfl (hP.frameDropped hs)
    | frameDroppedReplyOwed => exact block rfl (Closed.ite (hP.frameDropped hs) hs)
    | replySent => exact block rfl (hP.event (fun _ => hP.replySent) hs)
    | interbyteGapTimeout => exact block rfl (hP.lineDrop hs)
    | lineBreak => exact block rfl (hP.lineDrop hs)
    | badStopBit => exact block rfl (hP.badStopByte hs)
    | standbyByteReceived x => exact block rfl (hP.lineByte x hs)
    | byteReceived x => exact block rfl (hP.lineByte x hs)
    | silence5s => exact quiet rfl vital_silenceMark
    | silence120s => exact block rfl (hP.silenceEnd hs)
    | controlPeriodExpiry => exact quiet rfl vital_controlExpiry
    | flapTravelEnd => exact quiet rfl vital_flapEnd
    | allocationWindowExpiry => exact quiet rfl vital_windowExpiry
    | zeroCrossing => exact block rfl (hP.zeroCrossing hs)
    | mainsLoss => exact block rfl (hP.loseMains hs)
    | samplingExpiry x => exact block rfl (hP.event (fun _ => hP.sampling x) hs)
    | switchRawChange i v => exact block rfl (hP.ofVital (vital_rawChange _ _ _) hs)
    | doorContactChange c v =>
      exact block rfl (hP.event (fun b hb => debounced _ _ (hP.contactSettled c v hb)
        (hP.contactChange _ hb) hb) hs)
    | doorDisagreementTimeout => exact quiet rfl vital_disagreementEnd
    | tankInsertion =>
      refine block rfl (hP.event (fun b hb => ?_) hs)
      have hd : P (setDebounced .tank true b) := hP.ofVital (vital_setDebounced_tank _ _) hb
      exact debounced _ _ hd (hP.tankInserted hd) hb
    | tankRemoval =>
      refine block rfl (hP.event (fun b hb => ?_) hs)
      have hd : P (setDebounced .tank false b) := hP.ofVital (vital_setDebounced_tank _ _) hb
      exact debounced _ _ hd (hP.tankRemoved hd) hb
    | plugIn =>
      refine block rfl (hP.event (fun b hb => ?_) hs)
      have hd : P (setDebounced .plug true b) := hP.ofVital (vital_setDebounced_plug _ _) hb
      exact debounced _ _ hd (hP.ofVital (vital_startProbes _) (hP.woken _ hd)) hb
    | unplug =>
      refine block rfl (hP.event (fun b hb => ?_) hs)
      have hd : P (setDebounced .plug false b) := hP.ofVital (vital_setDebounced_plug _ _) hb
      exact debounced _ _ hd (hP.probeUnplugged hd) hb
    | electrodeChange e v =>
      refine block rfl (hP.event (fun b hb => ?_) hs)
      have hd : P (setDebounced (.electrode e) v b) :=
        hP.ofVital (vital_setDebounced_electrode _ _ _) hb
      exact debounced _ _ (hP.electrodeSettled hd) (hP.electrodeChanged hd) hb
    | pacingExpiry c => exact quiet rfl (vital_pacing c)
    | flowEdge e => exact quiet rfl (vital_flowEdge e)
    | pauseTimeout c => exact quiet rfl (vital_pauseTimeout c)
    | soakTimerExpiry => exact quiet rfl vital_soakExpiry
    | rinseHoldExpiry => exact quiet rfl vital_rinseHoldEnd
    | stepTimerExpiry => exact quiet rfl vital_stepExpiry
    | clockAdvance => exact block rfl (hP.clockAdvance hs)
    | retainedWriteComplete => exact block rfl (hP.writeComplete hs)
    | coldStart x => exact block rfl (hP.supplyUp x hs)
    | restartRequestStart x => exact block rfl (hP.restartStart x hs)
    | resetLineAssert => exact block rfl (hP.assertReset hs)
    | resetLineRelease x => exact block rfl (hP.releaseReset x hs hr)
    | _ => simp [requestFrame] at hf

omit hP in
theorem switch_elapse_deb (w : Switch) : w.elapse.deb = w.deb := by
  unfold Switch.elapse
  split
  · rfl
  · split <;> rfl

omit hP in
theorem vital_quietMillisecond (b : Block) : (quietMillisecond b).vital = b.vital := by
  unfold quietMillisecond
  split
  · have hc : (b.climate.travel (flapTurning b)).overtemp = b.climate.overtemp := by
      unfold Climate.travel
      split
      · split <;> rfl
      · rfl
    simp [Block.vital, doorOpen, Switches.elapse, switch_elapse_deb, hc]
  · rfl

/-- Every step keeps a steady property, in the words of `exec`. -/
theorem step {s t : State} (he : step s = .next t) (hs : P s.toBlock)
    (hr : s.life.resetLine = true →
      P (setLife { s.life with resetLine := false } s.toBlock)) : P t.toBlock := by
  unfold Machine.step at he
  split at he
  · exact hP.exec he hs hr
  · cases he
    exact hP.ofVital (vital_quietMillisecond _) hs

end Steady
end Sys2Proof.Machine
end

section
/-! SUPPORT. The settings stay in their ranges (R27, R176). -/

namespace Sys2Proof.Machine

/-! ### The settings and their writes -/

theorem mem_enqueue {x w : Write} {q : List Write} (h : x ∈ enqueue w q) : x = w ∨ x ∈ q := by
  induction q with
  | nil => exact .inl (by simpa [enqueue] using h)
  | cons y ys ih =>
    unfold enqueue at h
    split at h
    · rcases List.mem_cons.mp h with rfl | h
      · exact .inl rfl
      · exact .inr (List.mem_cons_of_mem _ h)
    · rcases List.mem_cons.mp h with rfl | h
      · exact .inr List.mem_cons_self
      · exact (ih h).imp_right (List.mem_cons_of_mem _)

/-- Only the settings, the straps and the settings' record and writes bear on the settings. -/
theorem SettingsSound.of_subset {a b : Block} (h : SettingsSound a) (hv : b.settings = a.settings)
    (hs : b.straps = a.straps) (hr : b.store.settings = a.store.settings)
    (hw : ∀ v, .settings v ∈ b.store.inFlight.toList ++ b.store.queue →
      .settings v ∈ a.store.inFlight.toList ++ a.store.queue) : SettingsSound b where
  held := hv ▸ h.held
  budget := by rw [hv, hs]; exact h.budget
  retained := hr ▸ h.retained
  writes v hm := h.writes v (hw v hm)

/-- A write of other settings in their ranges, or of another record. -/
theorem SettingsSound.queued {b : Block} (h : SettingsSound b) {w : Write}
    (hw : ∀ v, w = .settings v → v.InRange) : SettingsSound (queueWrite w b) where
  held := h.held
  budget := h.budget
  retained := h.retained
  writes v hm := by
    rcases List.mem_append.mp hm with hm | hm
    · exact h.writes v (List.mem_append_left _ hm)
    · rcases mem_enqueue hm with e | hm
      · exact hw v e.symm
      · exact h.writes v (List.mem_append_right _ hm)

theorem SettingsSound.configured {b : Block} (h : SettingsSound b) {v : Settings} (hv : v.InRange)
    (hm : 1200 ≤ v.budget ∧ v.budget ≤ budgetMax b.straps.mains) :
    SettingsSound (queueSettings (setSettings v b)) := by
  have hs : SettingsSound (setSettings v b) := ⟨hv, hm, h.retained, h.writes⟩
  exact hs.queued fun u e => by cases e; exact hv

/-- A served write comes out of the queue, or is a START NOTE. -/
theorem serveStore_cases (b : Block) :
    serveStore b = b ∨
    (∃ w ∈ b.store.queue, serveStore b =
      setStore { b.store with
        inFlight := some w, queue := b.store.queue.filter (·.record ≠ w.record) } b) ∨
    (∃ n, b.store.inFlight = none ∧ serveStore b =
      setStore { b.store with inFlight := some (.startNote n) }
        (setLife { b.life with note := .inFlight } b)) := by
  unfold serveStore
  split
  · exact .inl rfl
  next hf =>
    split
    · exact .inl rfl
    split
    next w hw =>
      obtain ⟨c, -, hc⟩ := List.exists_of_findSome?_eq_some hw
      exact .inr (.inl ⟨w, List.mem_of_find?_eq_some hc, rfl⟩)
    · split
      · exact .inr (.inr ⟨_, by simpa using hf, rfl⟩)
      · exact .inl rfl

theorem SettingsSound.served {b : Block} (h : SettingsSound b) : SettingsSound (serveStore b) := by
  rcases serveStore_cases b with e | ⟨w, hw, e⟩ | ⟨n, hf, e⟩ <;> rw [e]
  · exact h
  · refine h.of_subset rfl rfl rfl fun v hm => List.mem_append_right _ ?_
    rcases List.mem_cons.mp hm with rfl | hm
    · exact hw
    · exact List.mem_of_mem_filter hm
  · refine h.of_subset rfl rfl rfl fun v hm => List.mem_append_right _ ?_
    rcases List.mem_cons.mp hm with hm | hm
    · cases hm
    · exact hm

theorem commit_settings (w : Write) (r : Store) :
    (r.commit w).settings = r.settings ∨ w = .settings (r.commit w).settings := by
  cases w <;> first | exact .inl rfl | exact .inr rfl

theorem commit_queue (w : Write) (r : Store) : (r.commit w).queue = r.queue := by
  cases w <;> rfl

theorem SettingsSound.committed {b : Block} (h : SettingsSound b) {w : Write}
    (hw : b.store.inFlight = some w) :
    SettingsSound (setStore { b.store.commit w with inFlight := none } b) where
  held := h.held
  budget := h.budget
  retained := by
    rcases commit_settings w b.store with e | e
    · exact (congrArg Settings.InRange e).mpr h.retained
    · have hm : w ∈ b.store.inFlight.toList := by simp [hw]
      rw [e] at hm
      exact h.writes _ (List.mem_append_left _ hm)
  writes v hm := by
    refine h.writes v (List.mem_append_right _ ?_)
    simpa [commit_queue] using hm

theorem defaultSettings_inRange (m : MainsClass) : (defaultSettings m).InRange := by
  constructor <;> simp [defaultSettings]

theorem Settings.InRange.withBudget {v : Settings} (h : v.InRange) (n : Nat) :
    ({ v with budget := n } : Settings).InRange :=
  ⟨h.shed, h.hardness, h.kf, h.prescale, h.agentClass, h.resumeWindow, h.offset⟩

/-- The clamp of the budget at a start, whatever the record holds (R27). -/
theorem clampStartBudget_settingsSound {b : Block} (hv : b.settings.InRange)
    (hr : b.store.settings.InRange) (hf : b.store.inFlight = none) (hq : b.store.queue = []) :
    SettingsSound (clampStartBudget b) := by
  have hc := Steady.clampBudget_range b.straps.mains b.settings.budget
  unfold clampStartBudget
  extract_lets n
  split
  next e =>
    have hb : 1200 ≤ n ∧ n ≤ budgetMax b.straps.mains := hc
    rw [e] at hb
    exact ⟨hv, hb, hr, by simp [hf, hq]⟩
  next =>
    have hn := hv.withBudget n
    have hs : SettingsSound (setSettings { b.settings with budget := n } b) :=
      ⟨hn, hc, hr, by simp [hf, hq]⟩
    exact hs.queued fun u e => by cases e; exact hn

theorem SettingsSound.ofVital {a b : Block} (e : b.vital = a.vital) (h : SettingsSound a) :
    SettingsSound b := by
  have hs := congrArg Vital.store e
  have hr := congrArg Store.settings hs
  refine h.of_subset (congrArg Vital.settings e) (congrArg Vital.straps e) hr fun v hm => ?_
  have hf := congrArg Store.inFlight hs
  have hq := congrArg Store.queue hs
  simp only [Block.vital] at hf hq
  rcases List.mem_append.mp hm with hm | hm
  · exact List.mem_append_left _ (hf ▸ hm)
  · have hl := List.mem_filter.mpr ⟨hm, (rfl : (Write.settings v).lasting = true)⟩
    rw [hq] at hl
    exact List.mem_append_right _ (List.mem_of_mem_filter hl)

theorem wake_settingsSound (c : WakeCause) {b : Block} (h : SettingsSound b) :
    SettingsSound (wake c b) := by
  unfold wake
  split
  · exact ⟨h.held, h.budget, h.retained, h.writes⟩
  · exact h

theorem enterStandby_settingsSound {b : Block} (h : SettingsSound b) :
    SettingsSound (enterStandby b) := by
  have hq := h.queued (w := .scale b.gen.account) fun v e => by cases e
  exact ⟨hq.held, hq.budget, hq.retained, hq.writes⟩

theorem followInterlock_settingsSound (i : Interlock) (v : Bool) {b : Block}
    (h : SettingsSound b) : SettingsSound (followInterlock i v b) := by
  cases v <;> exact ⟨h.held, h.budget, h.retained, h.writes⟩

/-- The records that a start reads are in their ranges, failed or not (R178). -/
theorem readAtStart_inRange (v : Straps) (failed : List RecordName) {r : Store}
    (h : r.settings.InRange) : (r.readAtStart v failed).settings.InRange := by
  unfold Store.readAtStart
  dsimp only
  split
  · exact defaultSettings_inRange _
  · exact h

theorem startUp_settingsSound (cause : StartCause) (v : Straps) (pins : StrapPins)
    (x : StartInputs) {b : Block} (h : SettingsSound b) :
    SettingsSound (startUp cause v pins x b) := by
  unfold startUp
  extract_lets r b1 b2 b3
  have hr : r.settings.InRange := readAtStart_inRange _ _ h.retained
  have h1 : SettingsSound (clampStartBudget b1) := clampStartBudget_settingsSound hr hr rfl rfl
  exact h1.ofVital (by simp [b3, b2])

/-- Every update of the vital part keeps the settings sound. -/
theorem SettingsSound.steady : Steady SettingsSound where
  ofVital := SettingsSound.ofVital
  woken c _ h := wake_settingsSound c h
  rested h := enterStandby_settingsSound h
  power _ _ _ _ h := ⟨h.held, h.budget, h.retained, h.writes⟩
  life _ _ _ _ h := ⟨h.held, h.budget, h.retained, h.writes⟩
  flushed _ _ _ _ h := ⟨h.held, h.budget, h.retained, h.writes⟩
  queued _ _ hw h := h.queued fun _ e => absurd (e ▸ rfl) hw
  served h := h.served
  committed _ _ hw h := h.committed hw
  budgeted _ _ _ hn hm h := h.configured
    ⟨hm, h.held.hardness, h.held.kf, h.held.prescale, h.held.agentClass, h.held.resumeWindow,
      h.held.offset⟩ hn
  configured _ _ hv hm h := h.configured hv hm
  heated h := ⟨h.held, h.budget, h.retained, h.writes⟩
  cooled h := ⟨h.held, h.budget, h.retained, h.writes⟩
  fired h := ⟨h.held, h.budget, h.retained, h.writes⟩
  unfired h := ⟨h.held, h.budget, h.retained, h.writes⟩
  leveled _ _ h := followInterlock_settingsSound _ _ ⟨h.held, h.budget, h.retained, h.writes⟩
  contacts _ _ h := followInterlock_settingsSound _ _ ⟨h.held, h.budget, h.retained, h.writes⟩
  crossed h := ⟨h.held, h.budget, h.retained, h.writes⟩
  started _ _ _ _ _ h := startUp_settingsSound _ _ _ _ h

/-- Settles O9. -/
theorem settingsStayInRange : Obligations.SettingsStayInRange := by
  unfold Obligations.SettingsStayInRange
  intro s t hs he
  exact SettingsSound.steady.step he hs fun _ => ⟨hs.held, hs.budget, hs.retained, hs.writes⟩

end Sys2Proof.Machine
end

section
/-! SUPPORT. No load fires under an interlock (R36 to R40). -/

namespace Sys2Proof.Machine

/-! ### The interlocks and the loads -/

theorem get_outputs (b : Block) (l : Load) :
    b.vital.outputs.get l = ((b.share.loads.get l).locks, (b.share.loads.get l).firing) :=
  PerLoad.get_mapWith _ _ _

/-- The conditions of the interlocks: the door, the latches, the level, standby, a part not at work. -/
theorem locksOf_congr {a b : Block} (hd : doorOpen b = doorOpen a)
    (ho : b.climate.overtemp = a.climate.overtemp) (hf : b.gen.dryFire = a.gen.dryFire)
    (hl : b.gen.level = a.gen.level) (hp : b.life.power = .standby ↔ a.life.power = .standby)
    (hv : live b = live a) (l : Load) : locksOf b l = locksOf a l := by
  simp only [locksOf, hd, ho, hf, hl, hp, hv]

@[simp] theorem locksOf_followInterlock (i : Interlock) (v : Bool) (b : Block) (l : Load) :
    locksOf (followInterlock i v b) l = locksOf b l := by cases v <;> rfl

theorem OutputSafe.ofVital {a b : Block} (e : b.vital = a.vital) (h : OutputSafe a) :
    OutputSafe b := by
  have hp : b.life = a.life := congrArg Vital.life e
  have hc : ∀ l, locksOf b l = locksOf a l :=
    locksOf_congr (congrArg Vital.doorOpen e) (congrArg Vital.overtemp e)
      (congrArg Vital.dryFire e) (congrArg Vital.level e) (by rw [hp]) (by simp only [live, hp])
  have hg : ∀ l, ((b.share.loads.get l).locks, (b.share.loads.get l).firing) =
      ((a.share.loads.get l).locks, (a.share.loads.get l).firing) := fun l => by
    rw [← get_outputs, ← get_outputs, e]
  simp only [Prod.mk.injEq] at hg
  constructor
  · intro l
    rw [(hg l).1, hc, h.agree]
  · intro l hl
    rw [(hg l).1]
    exact h.fires l ((hg l).2 ▸ hl)

/-- A load safe by itself: nothing fires under a standing lock (R40). -/
def LoadOut.Safe (o : LoadOut) : Prop := o.firing = true → o.locks.isClear = true

theorem LoadOut.Safe.lock {o : LoadOut} (h : o.Safe) (i : Interlock) : (o.lock i).Safe := by
  unfold LoadOut.Safe LoadOut.lock at *
  split <;> simp_all

theorem isClear_put_false {l : LockSet} (h : l.isClear = true) (i : Interlock) :
    (l.put i false).isClear = true := by
  cases i <;> simp_all [LockSet.isClear, LockSet.put]

theorem LoadOut.Safe.unlock {o : LoadOut} (h : o.Safe) (i : Interlock) : (o.unlock i).Safe :=
  fun hf => isClear_put_false (h hf) i

theorem lock_locks (i : Interlock) (o : LoadOut) : (o.lock i).locks = o.locks.put i true := by
  unfold LoadOut.lock
  split <;> rfl

@[simp] theorem followInterlock_loads (i : Interlock) (v : Bool) (b : Block) :
    (followInterlock i v b).share.loads = b.share.loads.mapWith fun l o =>
      if i.covers l then (if v then o.lock i else o.unlock i) else o := by
  cases v <;> rfl

/-- An interlock follows its condition: the sets agree again with a part that differs from a safe one
in that condition alone (R36). -/
theorem OutputSafe.follow {a b : Block} (h : OutputSafe a) (i : Interlock) (v : Bool)
    (hs : b.share.loads = a.share.loads)
    (hc : ∀ l, locksOf b l =
      if i.covers l then (locksOf a l).put i v else locksOf a l) :
    OutputSafe (followInterlock i v b) where
  agree l := by
    rw [followInterlock_loads, PerLoad.get_mapWith, hs, locksOf_followInterlock, hc,
      ← h.agree]
    split
    · cases v
      · rfl
      · exact lock_locks _ _
    · rfl
  fires l hf := by
    have hl : (a.share.loads.get l).Safe := h.fires l
    revert hf
    rw [followInterlock_loads, PerLoad.get_mapWith, hs]
    split
    · cases v
      · exact hl.unlock i
      · exact hl.lock i
    · exact hl

/-- The loads as they are, under conditions as they are. -/
theorem OutputSafe.same {a b : Block} (h : OutputSafe a) (hs : b.share.loads = a.share.loads)
    (hc : ∀ l, locksOf b l = locksOf a l) : OutputSafe b where
  agree l := by rw [hs, hc, h.agree]
  fires l := by rw [hs]; exact h.fires l

theorem vital_enterStandby (b : Block) :
    (enterStandby b).vital =
      (followInterlock .standby true (setLife { b.life with power := .standby } b)).vital := by
  unfold enterStandby
  extract_lets b1 _ b2 _ b3 b4
  have h2 : b2.vital = b1.vital := vital_setShare rfl
  have h3 : b3.vital = b1.vital := (vital_setClimate rfl).trans h2
  have h4 : b4.vital = b1.vital := by
    rw [← h3, ← vital_queueScale b3]
    exact vital_stopSilence _
  refine (vital_setLife _ _).trans ?_
  simp only [h4]
  rfl

theorem enterStandby_outputSafe {b : Block} (h : OutputSafe b) : OutputSafe (enterStandby b) := by
  refine OutputSafe.ofVital (vital_enterStandby b) (h.follow _ _ rfl fun l => rfl)

theorem wake_outputSafe (c : WakeCause) {b : Block} (h : OutputSafe b) : OutputSafe (wake c b) := by
  unfold wake
  split
  next hs =>
    have hf : OutputSafe (followInterlock .standby false
        (setLife { b.life with power := .awake, wake := some c } b)) := by
      exact h.follow _ _ rfl fun l => rfl
    exact hf.ofVital ((vital_restartSilence _).trans (vital_setShare rfl))
  · exact h

theorem halfCycle_outputSafe {b : Block} (h : OutputSafe b) : OutputSafe (halfCycle b) := by
  have hl : ∀ (w : Bool) (r g : Nat) (o : LoadOut), (o.halfCycle w r g).locks = o.locks ∧
      ((o.halfCycle w r g).firing = true → o.locks.isClear = true) := fun w r g o => by
    unfold LoadOut.halfCycle
    dsimp only
    split
    next hc => split <;> exact ⟨rfl, fun _ => hc⟩
    next => exact ⟨rfl, fun hf => by simp at hf⟩
  constructor
  · intro l
    simp only [halfCycle, setShare_share, PerLoad.get_mapWith, (hl _ _ _ _).1]
    exact h.agree l
  · intro l
    simp only [halfCycle, setShare_share, PerLoad.get_mapWith, (hl _ _ _ _).1]
    exact (hl _ _ _ _).2

/-- The store's service leaves the loads and their conditions. -/
theorem serveStore_outputSafe {b : Block} (h : OutputSafe b) : OutputSafe (serveStore b) := by
  rcases serveStore_cases b with e | ⟨w, -, e⟩ | ⟨n, -, e⟩ <;> rw [e]
  · exact h
  · exact h.same rfl fun _ => rfl
  · exact h.same rfl fun _ => rfl

/-- The loads right after a start are safe under its conditions: door open, level DRY, the part live and
awake (logs 32, 33). -/
theorem rebuild_outputSafe (cause : StartCause) (v : Straps) (pins : StrapPins) (x : StartInputs)
    (r : Store) (b : Block) : OutputSafe (rebuild cause v pins x r b) where
  agree l := by cases l <;> rfl
  fires l hf := by cases l <;> cases hf

theorem startUp_outputSafe (cause : StartCause) (v : Straps) (pins : StrapPins) (x : StartInputs)
    (b : Block) : OutputSafe (startUp cause v pins x b) := by
  unfold startUp
  extract_lets r b1 b2 b3
  have h1 : OutputSafe b1 := rebuild_outputSafe _ _ _ _ _ _
  have hc : OutputSafe (clampStartBudget b1) := by
    unfold clampStartBudget
    extract_lets n
    split
    · exact h1
    · exact h1.same rfl fun _ => rfl
  exact hc.ofVital (by simp [b3, b2])

/-- Every update of the vital part keeps the loads safe. -/
theorem OutputSafe.steady : Steady OutputSafe where
  ofVital := OutputSafe.ofVital
  woken c _ h := wake_outputSafe c h
  rested h := enterStandby_outputSafe h
  power p b hp hb h := h.same rfl (locksOf_congr rfl rfl rfl rfl (by simp [hp, hb]) rfl)
  life x b hp hl h := h.same rfl (locksOf_congr rfl rfl rfl rfl (by simp [hp]) hl)
  flushed x b hp hl h := by
    have hf : OutputSafe (followInterlock .mainsLoss true (setLife x b)) := by
      refine h.follow _ _ rfl fun l => ?_
      simp only [locksOf, hl, setLife_life, hp]
      rfl
    exact hf.same rfl fun _ => rfl
  queued _ _ _ h := h.same rfl fun _ => rfl
  served h := serveStore_outputSafe h
  committed _ _ _ h := h.same rfl fun _ => rfl
  budgeted _ _ _ _ _ h := h.same rfl fun _ => rfl
  configured _ _ _ _ h := h.same rfl fun _ => rfl
  heated h := h.follow .overtemp true rfl fun l => by
    simp only [locksOf, Interlock.covers]
    cases l <;> simp only [Bool.and_true, Bool.and_false] <;> rfl
  cooled h := h.follow .overtemp false rfl fun l => by
    simp only [locksOf, Interlock.covers]
    cases l <;> simp only [Bool.and_true, Bool.and_false] <;> rfl
  fired h := h.follow .dryFire true rfl fun l => by
    simp only [locksOf, Interlock.covers]
    cases l <;> simp only [Bool.and_true, Bool.and_false] <;> rfl
  unfired h := h.follow .dryFire false rfl fun l => by
    simp only [locksOf, Interlock.covers]
    cases l <;> simp only [Bool.and_true, Bool.and_false] <;> rfl
  leveled _ _ h := h.follow _ _ rfl fun l => by
    simp only [locksOf, Interlock.covers]
    cases l <;> simp only [Bool.and_true, Bool.and_false] <;> rfl
  contacts _ _ h := h.follow _ _ rfl fun _ => rfl
  crossed h := halfCycle_outputSafe h
  started _ _ _ _ _ _ := startUp_outputSafe _ _ _ _ _

/-- Settles O7. -/
theorem outputStaysSafe : Obligations.OutputStaysSafe := by
  unfold Obligations.OutputStaysSafe
  intro s t hlife hs he
  refine OutputSafe.steady.step he hs fun hr => OutputSafe.steady.life _ rfl ?_ hs
  have hw : s.life.flush ≠ .none := fun e => by
    have := hlife.held (.inr hr)
    rw [e] at this
    cases this
  simp [live, hr, hw]

end Sys2Proof.Machine
end

section
/-! SUPPORT. The walk over the priority levels and the half-cycles of a window (R34, R40). -/

namespace Sys2Proof.Machine

/-! ### The walk over the priority levels (R34) -/

/-- The watts that the rows of some levels ask for together. -/
def askedAt (rows : PerLoad Row) (level : Nat → Bool) : Nat :=
  (if level rows.ring.prio then rows.ring.watts else 0) +
  (if level rows.top.prio then rows.top.watts else 0) +
  (if level rows.bottom.prio then rows.bottom.watts else 0) +
  (if level rows.gen.prio then rows.gen.watts else 0)

theorem levelSum_eq_askedAt (rows : PerLoad Row) (l : Nat) :
    levelSum rows l = askedAt rows fun q => decide (q = l) := by
  simp [levelSum, askedAt]

/-- Levels apart ask for their sum. -/
theorem askedAt_add (rows : PerLoad Row) {x y z : Nat → Bool} (h : ∀ q, z q = (x q || y q))
    (hd : ∀ q, x q = true → y q = false) : askedAt rows x + askedAt rows y = askedAt rows z := by
  have hq : ∀ q w : Nat, (if x q then w else 0) + (if y q then w else 0) = if z q then w else 0 :=
    fun q w => by
      rw [h q]
      cases hx : x q
      · simp
      · simp [hd q hx]
  simp only [askedAt, ← hq]
  omega

theorem askedAt_mono (rows : PerLoad Row) {x y : Nat → Bool} (h : ∀ q, x q = true → y q = true) :
    askedAt rows x ≤ askedAt rows y := by
  have hq : ∀ q w : Nat, (if x q then w else 0) ≤ if y q then w else 0 := fun q w => by
    cases hx : x q
    · simp
    · simp [h q hx]
  unfold askedAt
  gcongr <;> exact hq _ _

/-- The levels from `k` on below `p`. -/
def between (k p : Nat) : Nat → Bool := fun q => decide (k ≤ q) && decide (q < p)

theorem askedAt_between_step (rows : PerLoad Row) {k p : Nat} (h : k < p) :
    levelSum rows k + askedAt rows (between (k + 1) p) = askedAt rows (between k p) := by
  rw [levelSum_eq_askedAt]
  refine askedAt_add rows (fun q => ?_) fun q hq => ?_
  · rw [Bool.eq_iff_iff]
    simp only [between, Bool.or_eq_true, Bool.and_eq_true, decide_eq_true_eq]
    omega
  · simp only [between, decide_eq_true_eq, Bool.and_eq_false_iff, decide_eq_false_iff_not] at hq ⊢
    omega

theorem askedAt_between_empty (rows : PerLoad Row) (k : Nat) :
    askedAt rows (between k k) = 0 := by
  have h : between k k = fun _ => false := by
    funext q
    simp only [between, Bool.and_eq_false_iff, decide_eq_false_iff_not]
    omega
  simp [askedAt, h]

theorem get_grantLevel (rows : PerLoad Row) (k : Nat) (f : Nat → Nat) (rest : PerLoad Nat)
    (l : Load) : (grantLevel rows k f rest).get l =
      if (rows.get l).prio = k then f (rows.get l).watts else rest.get l := by
  cases l <;> rfl

theorem get_noGrants (l : Load) : noGrants.get l = 0 := by cases l <;> rfl

/-- What a walk over the levels from `k` on leaves a row: its request where the levels up to its own
fit, its part of the rest where its own level is the first that does not fit, else nothing. -/
def grantOf (rows : PerLoad Row) (k n r : Nat) (l : Load) : Nat :=
  let p := (rows.get l).prio
  let below := askedAt rows (between k p)
  if p < k ∨ k + n ≤ p then 0
  else if below + levelSum rows p ≤ r then (rows.get l).watts
  else if below ≤ r then (rows.get l).watts * (r - below) / levelSum rows p
  else 0

theorem get_walk (rows : PerLoad Row) (l : Load) (n k r : Nat) :
    (walk rows (List.range' k n) r).get l = grantOf rows k n r l := by
  induction n generalizing k r with
  | zero =>
    have h : (rows.get l).prio < k ∨ k + 0 ≤ (rows.get l).prio := by omega
    simp only [List.range'_zero, walk, get_noGrants, grantOf, if_pos h]
  | succ n ih =>
    rw [List.range'_succ, walk]
    by_cases hk : (rows.get l).prio = k
    · have he : ¬ (k < k ∨ k + (n + 1) ≤ k) := by omega
      simp only [grantOf, hk, if_neg he, askedAt_between_empty, Nat.zero_add, Nat.zero_le, if_true,
        Nat.sub_zero]
      split <;> simp [get_grantLevel, hk]
    by_cases hlt : (rows.get l).prio < k
    · have h1 : (rows.get l).prio < k ∨ k + (n + 1) ≤ (rows.get l).prio := .inl hlt
      have h2 : (rows.get l).prio < k + 1 ∨ k + 1 + n ≤ (rows.get l).prio := .inl (by omega)
      rw [grantOf, if_pos h1]
      split
      · rw [get_grantLevel, if_neg hk, ih, grantOf, if_pos h2]
      · rw [get_grantLevel, if_neg hk, get_noGrants]
    have hgt : k < (rows.get l).prio := by omega
    have hs := askedAt_between_step rows hgt
    split
    next hfit =>
      rw [get_grantLevel, if_neg hk, ih]
      simp only [grantOf, ← hs]
      have e1 : ((rows.get l).prio < k + 1 ∨ k + 1 + n ≤ (rows.get l).prio) ↔
          ((rows.get l).prio < k ∨ k + (n + 1) ≤ (rows.get l).prio) := by omega
      have e2 : ∀ x y : Nat, (x + y ≤ r - levelSum rows k) ↔
          (levelSum rows k + x + y ≤ r) := by omega
      have e3 : ∀ x : Nat, (x ≤ r - levelSum rows k) ↔ (levelSum rows k + x ≤ r) := by omega
      simp only [e1, e2, e3, Nat.sub_sub]
    next hcut =>
      rw [get_grantLevel, if_neg hk, get_noGrants]
      simp only [grantOf, ← hs]
      have h1 : ∀ x y : Nat, ¬ (levelSum rows k + x + y ≤ r) := by omega
      have h2 : ∀ x : Nat, ¬ (levelSum rows k + x ≤ r) := by omega
      simp only [h1, h2, if_false, ite_self]

theorem get_allocate (budget fixed shed : Nat) (rows : PerLoad Row) (l : Load) :
    (allocate budget fixed shed rows).get l = grantOf rows 0 (shed + 1) (budget - fixed) l := by
  rw [allocate, List.range_eq_range', get_walk]

/-! ### The grants fit (R28, R34) -/

/-- The four grants together. -/
def grantSum (g : PerLoad Nat) : Nat := g.ring + g.top + g.bottom + g.gen

theorem grantSum_full (rows : PerLoad Row) (k : Nat) (rest : PerLoad Nat) :
    grantSum (grantLevel rows k id rest) ≤ levelSum rows k + grantSum rest := by
  have h : ∀ (c : Prop) [Decidable c] (w x : Nat),
      (if c then w else x) ≤ (if c then w else 0) + x := fun c _ w x => by split <;> omega
  have h1 := h (rows.ring.prio = k) rows.ring.watts rest.ring
  have h2 := h (rows.top.prio = k) rows.top.watts rest.top
  have h3 := h (rows.bottom.prio = k) rows.bottom.watts rest.bottom
  have h4 := h (rows.gen.prio = k) rows.gen.watts rest.gen
  simp only [grantSum, grantLevel, levelSum, id]
  omega

/-- The parts of a level that does not fit add up to no more than the rest. -/
theorem grantSum_cut (rows : PerLoad Row) (k r : Nat) :
    grantSum (grantLevel rows k (fun w => w * r / levelSum rows k) noGrants) ≤ r := by
  have h : ∀ (c : Prop) [Decidable c] (w s : Nat),
      (if c then w * r / s else 0) = (if c then w else 0) * r / s := fun c _ w s => by
    split <;> simp
  simp only [grantSum, grantLevel, noGrants, h]
  have hd : ∀ a b s : Nat, a / s + b / s ≤ (a + b) / s := fun _ _ _ => Nat.div_add_div_le_add_div
  refine (Nat.add_le_add_right (Nat.add_le_add_right (hd _ _ _) _) _).trans
    ((Nat.add_le_add_right (hd _ _ _) _).trans ((hd _ _ _).trans ?_))
  rw [← Nat.add_mul, ← Nat.add_mul, ← Nat.add_mul]
  exact Nat.div_le_of_le_mul (le_of_eq rfl)

theorem grantSum_walk (rows : PerLoad Row) (ls : List Nat) (r : Nat) :
    grantSum (walk rows ls r) ≤ r := by
  induction ls generalizing r with
  | nil => exact Nat.zero_le _
  | cons k ls ih =>
    rw [walk]
    split
    next hfit =>
      have h1 := grantSum_full rows k (walk rows ls (r - levelSum rows k))
      have h2 := ih (r - levelSum rows k)
      omega
    next => exact grantSum_cut rows k r

theorem grantOf_le (rows : PerLoad Row) (k n r : Nat) (l : Load) :
    grantOf rows k n r l ≤ (rows.get l).watts := by
  unfold grantOf
  extract_lets p below
  split
  · exact Nat.zero_le _
  split
  · exact le_rfl
  split
  next hcut _ =>
    refine Nat.div_le_of_le_mul ?_
    rw [Nat.mul_comm (levelSum rows p)]
    exact Nat.mul_le_mul_left _ (by omega)
  · exact Nat.zero_le _

/-! ### The half-cycles of a window (R40) -/

/-- A load that fires by its accumulator: what it was granted is what it fired and what it still
holds. -/
structure Accumulates (rated grant n : Nat) (o : LoadOut) : Prop where
  clear : o.locks.isClear = true
  account : o.fired * rated + o.acc = n * grant
  held : o.acc < rated

theorem Accumulates.halfCycle {rated grant n : Nat} {o : LoadOut} (hg : grant ≤ rated)
    (h : Accumulates rated grant n o) :
    Accumulates rated grant (n + 1) (o.halfCycle true rated grant) := by
  obtain ⟨hc, ha, hh⟩ := h
  unfold LoadOut.halfCycle
  simp only [hc, if_true]
  have hn : (n + 1) * grant = n * grant + grant := Nat.succ_mul _ _
  split
  next hf =>
    have hm : (o.fired + 1) * rated = o.fired * rated + rated := Nat.succ_mul _ _
    exact ⟨hc, by dsimp only; omega, by dsimp only; omega⟩
  next hf => exact ⟨hc, by dsimp only; omega, by dsimp only; omega⟩

theorem accumulates_iterate {rated grant : Nat} {o : LoadOut} (hr : 0 < rated) (hg : grant ≤ rated)
    (hc : o.locks.isClear = true) (ha : o.acc = 0) (hf : o.fired = 0) (n : Nat) :
    Accumulates rated grant n ((LoadOut.halfCycle true rated grant)^[n] o) := by
  induction n with
  | zero => exact ⟨hc, by simp [ha, hf], by simpa [ha] using hr⟩
  | succ n ih =>
    rw [Function.iterate_succ_apply']
    exact ih.halfCycle hg

theorem between_zero (p : Nat) : between 0 p = fun q => decide (q < p) := by
  funext q
  simp [between]

/-- The four rows' watts in a list, added up. -/
theorem total_eq_askedAt (rows : PerLoad Row) (level : Nat → Bool) :
    ([Load.ring, .top, .bottom, .gen].map fun m =>
      if level (rows.get m).prio then (rows.get m).watts else 0).sum = askedAt rows level := by
  simp only [List.map_cons, List.map_nil, List.sum_cons, List.sum_nil, askedAt, Nat.add_zero,
    Nat.add_assoc]
  rfl

/-- Where the rows up to a shed level fit together, the levels up to any of them fit. -/
theorem asked_upTo_fits (rows : PerLoad Row) (r shed : Nat) {p : Nat}
    (hfit : (if rows.ring.prio ≤ shed then rows.ring.watts else 0) +
      (if rows.top.prio ≤ shed then rows.top.watts else 0) +
      (if rows.bottom.prio ≤ shed then rows.bottom.watts else 0) +
      (if rows.gen.prio ≤ shed then rows.gen.watts else 0) ≤ r) (hp : p ≤ shed) :
    askedAt rows (between 0 p) + levelSum rows p ≤ r := by
  have hdecide : ∀ q w : Nat, (if decide (q ≤ shed) = true then w else 0) =
      if q ≤ shed then w else 0 := fun q w => by by_cases h : q ≤ shed <;> simp [h]
  have hall : askedAt rows (fun q => decide (q ≤ shed)) ≤ r := by
    simp only [askedAt, hdecide]
    exact hfit
  rw [levelSum_eq_askedAt, between_zero, askedAt_add rows (z := fun q => decide (q ≤ p))
    (fun q => ?_) fun q hq => ?_]
  · refine (askedAt_mono rows fun q hq => ?_).trans hall
    simp only [decide_eq_true_eq] at hq ⊢
    omega
  · rw [Bool.eq_iff_iff]
    simp only [Bool.or_eq_true, decide_eq_true_eq]
    omega
  · simp only [decide_eq_true_eq, decide_eq_false_iff_not] at hq ⊢
    omega

/-- Settles O28. -/
theorem grantsFitTheBudgetAndFireExactly : Obligations.GrantsFitTheBudgetAndFireExactly := by
  unfold Obligations.GrantsFitTheBudgetAndFireExactly
  refine ⟨fun budget fixed shed rows => ?_, fun rated grant n o hr hg hc ha hf => ?_⟩
  · have hget := get_allocate budget fixed shed rows
    intro g asked
    refine ⟨grantSum_walk _ _ _, fun l => (hget l).trans_le (grantOf_le _ _ _ _ _), fun l hl => ?_,
      fun hfit l hl => ?_, fun l hl => ?_⟩
    · exact (hget l).trans (if_pos (.inr (by omega)))
    · have hin : ¬ ((rows.get l).prio < 0 ∨ 0 + (shed + 1) ≤ (rows.get l).prio) := by omega
      rw [hget, grantOf, if_neg hin, if_pos (asked_upTo_fits rows _ shed hfit hl)]
    · intro w p total below here
      have hin : ¬ ((rows.get l).prio < 0 ∨ 0 + (shed + 1) ≤ (rows.get l).prio) := by omega
      have hb : below = askedAt rows (between 0 (rows.get l).prio) := by
        rw [between_zero]
        exact total_eq_askedAt rows fun q => decide (q < (rows.get l).prio)
      have hh : here = levelSum rows (rows.get l).prio := by
        rw [levelSum_eq_askedAt]
        exact total_eq_askedAt rows fun q => decide (q = (rows.get l).prio)
      have hg := hget l
      simp only [grantOf, if_neg hin, ← hb, ← hh] at hg
      refine ⟨fun h => hg.trans (if_pos h), fun h1 h2 => ?_, fun h => ?_⟩
      · rw [hg, if_neg (by omega), if_pos h1]
      · rw [hg, if_neg (by omega), if_neg (by omega)]
  · obtain ⟨-, haccount, hheld⟩ := accumulates_iterate hr hg hc ha hf n
    refine ⟨?_, hheld⟩
    rw [← haccount, Nat.add_comm, Nat.add_mul_div_right _ _ hr, Nat.div_eq_of_lt hheld, Nat.zero_add]

end Sys2Proof.Machine
end

section
/-! SUPPORT. The end of an event, and the part as a request finds it (R184, R186 to R188). -/

namespace Sys2Proof.Machine

/-! ### The examinations at the end of an event -/

/-- What the examinations at an event's end look at, but for the store. -/
structure Examined where
  door : Bool
  off : Bool
  run : RunState
  kept : DescaleRec
  gen : GenState
  flush : Flush
  settling : Option Nat

/-- What the examinations find in a block. -/
def Block.examined (b : Block) : Examined :=
  { door := doorOpen b
    off := decide (b.climate.state = .off)
    run := b.run.state
    kept := b.descale.kept
    gen := b.gen.state
    flush := b.life.flush
    settling := b.life.settling }

theorem doorOpenCondition_examined (b : Block) :
    doorOpenCondition b =
      (b.examined.door && (!b.examined.off || decide (b.examined.run ≠ .idle))) := by
  simp only [doorOpenCondition, Block.examined, ← decide_not]
  rfl

theorem silenceCondition_examined (b : Block) :
    silenceCondition b = (!b.examined.off || decide (b.examined.run ≠ .idle) ||
      decide (b.examined.kept.phase ≠ .idle)) := by
  simp only [silenceCondition, Block.examined, ← decide_not]
  rfl

theorem standbyAllowed_examined (b : Block) :
    standbyAllowed b = (b.examined.off && decide (b.examined.run ≠ .running) &&
      decide (b.examined.kept.phase = .idle) && decide (b.examined.gen ≠ .fault)) := rfl

/-- An event that leaves what is examined but for the generator's state, which becomes neither FAULT
nor IDLE, leaves the end of an event nothing but the store to examine. -/
theorem finishEvent_of_moved {a b : Block}
    (h : { b.examined with gen := a.gen.state } = a.examined)
    (hf : b.gen.state = .fault → a.gen.state = .fault)
    (hi : b.gen.state = .idle → a.gen.state = .idle) : finishEvent a b = examineStore a b := by
  have door : b.examined.door = a.examined.door := by rw [← h]
  have off : b.examined.off = a.examined.off := by rw [← h]
  have run : b.examined.run = a.examined.run := by rw [← h]
  have kept : b.examined.kept = a.examined.kept := by rw [← h]
  have hdoor : examineDoorOpen a b = b := by
    have hc : doorOpenCondition a = doorOpenCondition b := by
      simp only [doorOpenCondition_examined, door, off, run]
    unfold examineDoorOpen
    rw [if_pos hc, ite_self]
  have hkept : examineDescaleWrite a b = b := if_pos kept.symm
  have hsilence : examineSilence a b = b := by
    refine if_pos ?_
    simp only [silenceCondition_examined, off, run, kept]
  have hstandby : examineStandby a b = b := by
    have hkeep : standbyAllowed a = true → standbyAllowed b = true := by
      rw [standbyAllowed_examined, standbyAllowed_examined, off, run, kept]
      simp only [Bool.and_eq_true, decide_eq_true_eq]
      exact fun ⟨h, hg⟩ => ⟨h, fun e => hg (hf e)⟩
    have hallowed : ¬ (standbyAllowed a && !standbyAllowed b) = true := by
      rw [Bool.and_eq_true, Bool.not_eq_true']
      exact fun ⟨ha, hb⟩ => absurd ((hkeep ha).symm.trans hb) (by decide)
    have hidle : ¬ (a.gen.state ≠ .idle ∧ b.gen.state = .idle) := fun ⟨hn, he⟩ => hn (hi he)
    unfold examineStandby
    rw [if_neg hallowed, if_neg hidle, ite_self]
  rw [finishEvent, hdoor, hkept, hsilence, hstandby]

theorem finishEvent_of_examined {a b : Block} (h : b.examined = a.examined) :
    finishEvent a b = examineStore a b := by
  have hg : b.gen.state = a.gen.state := congrArg Examined.gen h
  exact finishEvent_of_moved (hg ▸ h) hg.symm.trans hg.symm.trans

theorem examineStore_same {a b : Block} (h : b.examined = a.examined) (hs : b.store = a.store) :
    examineStore a b = b :=
  if_pos ⟨hs.symm, (congrArg Examined.flush h).symm, (congrArg Examined.settling h).symm⟩

theorem finishEvent_same {a b : Block} (h : b.examined = a.examined) (hs : b.store = a.store) :
    finishEvent a b = b :=
  (finishEvent_of_examined h).trans (examineStore_same h hs)

/-- A store at rest that an event leaves as it was has nothing to serve. -/
theorem examineStore_served {a b : Block} (ha : StoreServed a) (hb : b.life.flush = .none) :
    examineStore a b = serveStore b := by
  unfold examineStore
  split
  next h =>
    have hs : StoreServed b := by
      unfold StoreServed at ha ⊢
      rwa [← h.1]
    unfold serveStore
    split
    · rfl
    next hf =>
      have hq : b.store.queue = [] := hs.resolve_left hf
      have hnext : nextWrite (flushServes .none) b.store.queue = none := by
        rw [hq]
        rfl
      simp [hb, hnext, Flush.writesNote]
  · rfl

/-- A block that differs from another only where the end of an event reaches. -/
def SameBeforeEnd (a b : Block) : Prop :=
  b = { a with
    life := b.life, climate := b.climate, share := b.share, attn := b.attn, store := b.store
    silence := b.silence }

theorem SameBeforeEnd.trans {a b c : Block} (h : SameBeforeEnd a b) (g : SameBeforeEnd b c) :
    SameBeforeEnd a c := by
  have hc := congrArg (fun x : Block => { x with
    life := c.life, climate := c.climate, share := c.share, attn := c.attn, store := c.store
    silence := c.silence }) h
  exact Eq.trans g hc

theorem serveStore_sameBeforeEnd (b : Block) : SameBeforeEnd b (serveStore b) := by
  rcases serveStore_cases b with e | ⟨w, -, e⟩ | ⟨n, -, e⟩ <;> rw [e] <;> rfl

theorem enterStandby_eq (b : Block) : enterStandby b =
    setLife { b.life with power := .standby }
      (setSilence { b.silence with running := false, ms := 0 }
        (setStore (queueScale b).store
          (setClimate { b.climate with lampMark := false }
            (setShare { b.share with
                windowTimer := false, grants := ⟨0, 0, 0, 0⟩
                loads := b.share.loads.mapWith fun _ o => (o.lock .standby).rested } b)))) := rfl

theorem enterStandby_sameBeforeEnd (b : Block) : SameBeforeEnd b (enterStandby b) := by
  rw [enterStandby_eq]
  rfl

theorem finishEvent_sameBeforeEnd (a b : Block) : SameBeforeEnd b (finishEvent a b) := by
  have hdoor : SameBeforeEnd b (examineDoorOpen a b) := by
    unfold examineDoorOpen followCondition
    split_ifs <;> rfl
  have hkept : ∀ c, SameBeforeEnd c (examineDescaleWrite a c) := fun c => by
    unfold examineDescaleWrite
    split_ifs <;> rfl
  have hsilence : ∀ c, SameBeforeEnd c (examineSilence a c) := fun c => by
    unfold examineSilence
    split_ifs <;> rfl
  have hstandby : ∀ c, SameBeforeEnd c (examineStandby a c) := fun c => by
    unfold examineStandby
    split_ifs
    · rfl
    · rfl
    · exact enterStandby_sameBeforeEnd c
    · rfl
  have hstore : ∀ c, SameBeforeEnd c (examineStore a c) := fun c => by
    unfold examineStore
    split_ifs
    · rfl
    · exact serveStore_sameBeforeEnd c
  unfold finishEvent
  exact (((hdoor.trans (hkept _)).trans (hsilence _)).trans (hstandby _)).trans (hstore _)

/-! ### A hold or a reason that joins or leaves -/

/-- What a hold or a reason that joins or leaves can change: the holds of the run; the climate
between ACTIVE and SUSPENDED, its reasons and its flap; the demand handed over; the request rows,
the generator's where it heats (R3, R6, R44, R125). -/
structure HoldMoved (a b : Block) : Prop where
  eq : b = { a with run := b.run, climate := b.climate, gen := b.gen, share := b.share }
  run : b.run = { a.run with hold := b.run.hold }
  climate : b.climate = { a.climate with
    state := b.climate.state, reasons := b.climate.reasons, flap := b.climate.flap }
  off : b.climate.state = .off ↔ a.climate.state = .off
  gen : b.gen = { a.gen with demand := b.gen.demand, prio := b.gen.prio }
  share : b.share = { a.share with requests := b.share.requests }
  genRow : a.gen.state ≠ .heating → a.gen.state ≠ .ready →
    b.share.requests.gen = a.share.requests.gen

namespace HoldMoved

theorem refl (a : Block) : HoldMoved a a := by constructor <;> first | rfl | exact fun _ _ => rfl

theorem trans {a b c : Block} (h : HoldMoved a b) (g : HoldMoved b c) : HoldMoved a c where
  eq := by rw [g.eq, h.eq]
  run := by rw [g.run, h.run]
  climate := by rw [g.climate, h.climate]
  off := g.off.trans h.off
  gen := by rw [g.gen, h.gen]
  share := by rw [g.share, h.share]
  genRow h1 h2 := by
    have hs := congrArg Generator.state h.gen
    exact (g.genRow (fun e => h1 (hs.symm.trans e)) fun e => h2 (hs.symm.trans e)).trans
      (h.genRow h1 h2)

theorem ofHold (h : HoldSet) (b : Block) : HoldMoved b (setRun { b.run with hold := h } b) := by
  constructor <;> first | rfl | exact fun _ _ => rfl

theorem ofReasons (r : Reasons) (b : Block) :
    HoldMoved b (setClimate { b.climate with reasons := r } b) := by
  constructor <;> first | rfl | exact fun _ _ => rfl

theorem ofState {st : ClimateState} {b : Block} (hs : st ≠ .off) (hb : b.climate.state ≠ .off) :
    HoldMoved b (setClimate { b.climate with state := st } b) := by
  constructor <;> first | rfl | exact fun _ _ => rfl | exact iff_of_false hs hb

theorem ofFlap (f : Flap) (b : Block) :
    HoldMoved b (setClimate { b.climate with flap := f } b) := by
  constructor <;> first | rfl | exact fun _ _ => rfl

theorem ofDemand (d p : Nat) (b : Block) :
    HoldMoved b (setGen { b.gen with demand := d, prio := p } b) := by
  constructor <;> first | rfl | exact fun _ _ => rfl

theorem ofElements (r t o p : Nat) (b : Block) : HoldMoved b (writeElementRows r t o p b) := by
  constructor <;> first | rfl | exact fun _ _ => rfl

theorem ofGenRow (w p : Nat) {b : Block} (h : b.gen.state = .heating ∨ b.gen.state = .ready) :
    HoldMoved b (writeGenRow w p b) := by
  constructor <;> first | rfl | exact fun h1 h2 => absurd h (not_or.mpr ⟨h1, h2⟩)

theorem handOver (d : Nat) (p : Option Nat) (b : Block) : HoldMoved b (handOver d p b) := by
  unfold Machine.handOver
  have h := ofDemand d (p.getD b.gen.prio) b
  extract_lets c
  split
  next hs =>
    unfold refreshGenRow
    rw [hs]
    exact h.trans (ofGenRow _ _ (.inl hs))
  next hs =>
    unfold refreshGenRow
    rw [hs]
    exact h.trans (ofGenRow _ _ (.inr hs))
  next => exact h

theorem zeroDemand (b : Block) : HoldMoved b (zeroDemand b) :=
  (ofElements _ _ _ _ b).trans (handOver _ _ _)

theorem commandModeFlap (b : Block) : HoldMoved b (commandModeFlap b) := by
  unfold Machine.commandModeFlap
  split
  · exact ofFlap _ _
  · exact refl b
  all_goals exact ofFlap _ _

theorem putReasons (r : Reasons) (b : Block) : HoldMoved b (putReasons r b) := by
  unfold Machine.putReasons
  have h := ofReasons r b
  have hoff : ∀ {x st : ClimateState}, x = st → st ≠ .off → x ≠ .off := fun e h => e ▸ h
  extract_lets _ c
  split
  next hs =>
    split
    · exact (h.trans (ofState (by decide) (hoff hs (by decide)))).trans (zeroDemand _)
    · exact h
  next hs =>
    split
    · exact h
    · exact (h.trans (ofState (by decide) (hoff hs (by decide)))).trans (commandModeFlap _)
  all_goals exact h

theorem putHold (x : HoldSet) (b : Block) : HoldMoved b (putHold x b) := by
  unfold Machine.putHold
  have h := ofHold x b
  extract_lets was c
  split
  · split
    · exact h
    · exact h.trans (putReasons _ _)
  split
  · exact h.trans (putReasons _ _)
  · exact h

theorem endSilent (b : Block) : HoldMoved b (endSilent b) := by
  unfold Machine.endSilent
  extract_lets c
  have hc : HoldMoved b c := by
    unfold c
    split
    · exact putHold _ b
    · exact refl b
  split
  · exact hc.trans (putReasons _ _)
  · exact hc

end HoldMoved

/-! ### The part as a request finds it (R184, R187, R193) -/

theorem wake_eq (c : WakeCause) (b : Block) :
    wake c b = { b with
      life := (wake c b).life, share := (wake c b).share, silence := (wake c b).silence } := by
  unfold wake
  split <;> rfl

theorem wake_life (c : WakeCause) (b : Block) :
    (wake c b).life = { b.life with
      power := (wake c b).life.power, wake := (wake c b).life.wake } := by
  unfold wake
  split <;> rfl

theorem wake_requests (c : WakeCause) (b : Block) :
    (wake c b).share.requests = b.share.requests := by
  unfold wake
  split <;> rfl

/-- The part as a request finds it, against the part before it. -/
structure Heard (a b : Block) : Prop where
  eq : b = { a with
    life := b.life, run := b.run, climate := b.climate, gen := b.gen, share := b.share
    link := b.link, silence := b.silence }
  life : b.life = { a.life with power := b.life.power, wake := b.life.wake }
  run : b.run = { a.run with hold := b.run.hold }
  climate : b.climate = { a.climate with
    state := b.climate.state, reasons := b.climate.reasons, flap := b.climate.flap }
  off : b.climate.state = .off ↔ a.climate.state = .off
  gen : b.gen = { a.gen with demand := b.gen.demand, prio := b.gen.prio }
  link : b.link = { a.link with rx := .hunt, len := 0, buf := [], check := [] }
  genRow : a.gen.state ≠ .heating → a.gen.state ≠ .ready →
    b.share.requests.gen = a.share.requests.gen

theorem heard_heard (b : Block) : Heard b (heard b) := by
  have h := HoldMoved.endSilent (wake .link b)
  have hw := wake_eq .link b
  have hlink : (endSilent (wake .link b)).link = b.link := by rw [h.eq, hw]
  have hlife : (heard b).life = (wake .link b).life := by
    rw [heard, acceptFrame, restartSilence, h.eq]
    rfl
  have hrun : (wake .link b).run = b.run := by rw [hw]
  have hclimate : (wake .link b).climate = b.climate := by rw [hw]
  have hgen : (wake .link b).gen = b.gen := by rw [hw]
  exact
    { eq := by rw [heard, acceptFrame, restartSilence, h.eq, hw]; rfl
      life := hlife ▸ wake_life _ _
      run := hrun ▸ h.run
      climate := hclimate ▸ h.climate
      off := hclimate ▸ h.off
      gen := hgen ▸ h.gen
      link := hlink ▸ rfl
      genRow := fun h1 h2 => (h.genRow (hgen ▸ h1) (hgen ▸ h2)).trans
        (congrArg PerLoad.gen (wake_requests _ _)) }

theorem heard_examined (b : Block) : (heard b).examined = b.examined := by
  have h := heard_heard b
  have hdoor : doorOpen (heard b) = doorOpen b := by rw [h.eq]; rfl
  have hrun : (heard b).run.state = b.run.state := by rw [h.run]
  have hgen : (heard b).gen.state = b.gen.state := by rw [h.gen]
  have hkept : (heard b).descale = b.descale := by rw [h.eq]
  have hflush : (heard b).life.flush = b.life.flush := by rw [h.life]
  have hsettling : (heard b).life.settling = b.life.settling := by rw [h.life]
  simp [Block.examined, hdoor, h.off, hrun, hgen, hkept, hflush, hsettling]

@[simp] theorem heard_store (b : Block) : (heard b).store = b.store := by
  rw [(heard_heard b).eq]
@[simp] theorem heard_settings (b : Block) : (heard b).settings = b.settings := by
  rw [(heard_heard b).eq]
@[simp] theorem heard_straps (b : Block) : (heard b).straps = b.straps := by
  rw [(heard_heard b).eq]
@[simp] theorem heard_sensors (b : Block) : (heard b).sensors = b.sensors := by
  rw [(heard_heard b).eq]
@[simp] theorem heard_descale (b : Block) : (heard b).descale = b.descale := by
  rw [(heard_heard b).eq]
@[simp] theorem heard_fill (b : Block) : (heard b).fill = b.fill := by
  rw [(heard_heard b).eq]
@[simp] theorem heard_genState (b : Block) : (heard b).gen.state = b.gen.state := by
  rw [(heard_heard b).gen]
@[simp] theorem heard_account (b : Block) : (heard b).gen.account = b.gen.account := by
  rw [(heard_heard b).gen]
@[simp] theorem heard_steamWanted (b : Block) :
    (heard b).climate.steamWanted = b.climate.steamWanted := by
  rw [(heard_heard b).climate]
@[simp] theorem heard_dropped (b : Block) : (heard b).link.dropped = b.link.dropped := by
  rw [(heard_heard b).link]

/-! ### A handled request -/

theorem Answers.flush {s : State} (h : Answers s) : s.life.flush = .none := by
  have hr := h.1
  simp only [receiving, live, Bool.and_eq_true, decide_eq_true_eq] at hr
  exact hr.1.2

/-- A request that is handled: its handler's reply, in the part as it was heard, ends the event. -/
theorem request_answers {s : State} (h : Answers s) (kind : Byte) (handler : Block → Answer) :
    onBlock (request kind handler) s =
      .next (s.withBlock (finishEvent s.toBlock ((handler (heard s.toBlock)).reply kind))) := by
  obtain ⟨hr, ho⟩ := h
  simp only [onBlock, request, hr, ho, State.withBlock, heard]
  rfl

/-- A request whose handler leaves what is examined and the store only does what the handler does. -/
theorem request_kept {s : State} (h : Answers s) (kind : Byte) {handler : Block → Answer}
    {st : Status} {p : Payload} {b : Block} (ha : handler (heard s.toBlock) = ⟨b, st, p⟩)
    (he : b.examined = s.toBlock.examined) (hs : b.store = s.store) :
    onBlock (request kind handler) s = .next (s.withBlock (replied kind st p b)) := by
  rw [request_answers h, ha]
  have hend : finishEvent s.toBlock (replied kind st p b) = replied kind st p b :=
    finishEvent_same he hs
  exact congrArg (fun c => Host.Outcome.next (s.withBlock c)) hend

/-- A refused request only answers. -/
theorem request_refused {s : State} (h : Answers s) (kind : Byte) {handler : Block → Answer}
    {st : Status} {p : Payload} (ha : handler (heard s.toBlock) = ⟨heard s.toBlock, st, p⟩) :
    onBlock (request kind handler) s =
      .next (s.withBlock (replied kind st p (heard s.toBlock))) :=
  request_kept h kind ha (heard_examined _) (heard_store _)

/-- A request whose handler queues writes at a store at rest has the store served. -/
theorem request_served {s : State} (h : Answers s) (hq : StoreServed s.toBlock) (kind : Byte)
    {handler : Block → Answer} {st : Status} {p : Payload} {b : Block}
    (ha : handler (heard s.toBlock) = ⟨b, st, p⟩) (he : b.examined = s.toBlock.examined) :
    onBlock (request kind handler) s = .next (s.withBlock (serveStore (replied kind st p b))) := by
  have hf : b.life.flush = .none := (congrArg Examined.flush he).trans h.flush
  rw [request_answers h, ha]
  have hend : finishEvent s.toBlock (replied kind st p b) = serveStore (replied kind st p b) :=
    (finishEvent_of_examined (b := replied kind st p b) he).trans (examineStore_served hq hf)
  exact congrArg (fun c => Host.Outcome.next (s.withBlock c)) hend

end Sys2Proof.Machine
end

section
/-! SUPPORT. An accepted zero crossing is one half-cycle of each load (R40, R41). -/

namespace Sys2Proof.Machine

/-! ### A half-cycle of each load (R40, R41) -/

theorem zeroCrossing_live {b : Block} (h : live b = true) : zeroCrossing b = halfCycle b := by
  have hm : b.life.mainsLost = false := by
    simp only [live, Bool.and_eq_true, Bool.not_eq_true'] at h
    exact h.1.1
  unfold zeroCrossing event
  rw [hm, if_neg Bool.false_ne_true, if_pos h]
  exact finishEvent_same rfl rfl

theorem halfCycle_load (b : Block) (l : Load) :
    (halfCycle b).share.loads.get l = (b.share.loads.get l).halfCycle b.share.windowTimer
      ((rating b.straps.cavity).get l) (b.share.grants.get l) :=
  PerLoad.get_mapWith _ _ _

theorem LoadOut.halfCycle_fires {w : Bool} {rated grant : Nat} {o : LoadOut}
    (hc : o.locks.isClear = true) (hr : rated ≤ o.acc + grant) :
    o.halfCycle w rated grant =
      { o with
        acc := o.acc + grant - rated, counted := if w = true then o.counted + 1 else o.counted
        fired := o.fired + 1, firing := true } :=
  (if_pos hc).trans (if_pos hr)

theorem LoadOut.halfCycle_gathers {w : Bool} {rated grant : Nat} {o : LoadOut}
    (hc : o.locks.isClear = true) (hr : o.acc + grant < rated) :
    o.halfCycle w rated grant =
      { o with
        acc := o.acc + grant, counted := if w = true then o.counted + 1 else o.counted
        firing := false } :=
  (if_pos hc).trans (if_neg (Nat.not_le.mpr hr))

theorem LoadOut.halfCycle_locked {w : Bool} {rated grant : Nat} {o : LoadOut}
    (hc : o.locks.isClear = false) :
    o.halfCycle w rated grant =
      { o with counted := if w = true then o.counted + 1 else o.counted, firing := false } :=
  if_neg (ne_true_of_eq_false hc)

/-- Settles O29: an accepted crossing is one half-cycle, and ends with nothing to examine. -/
theorem zeroCrossingFires : Obligations.ZeroCrossingFires := by
  unfold Obligations.ZeroCrossingFires
  intro s hs
  refine ⟨s.withBlock (halfCycle s.toBlock), ?_, rfl, fun l => ?_⟩
  · exact congrArg (fun c => Host.Outcome.next (s.withBlock c)) (zeroCrossing_live hs)
  · have hl : ((s.withBlock (halfCycle s.toBlock)).share.loads.get l) = _ :=
      halfCycle_load s.toBlock l
    intro o sum rated counted
    exact ⟨fun hc hr => hl.trans (LoadOut.halfCycle_fires hc hr),
      fun hc hr => hl.trans (LoadOut.halfCycle_gathers hc hr),
      fun hc => hl.trans (LoadOut.halfCycle_locked hc)⟩

end Sys2Proof.Machine
end

section
/-! SUPPORT. What the own work of the generator, the channels and the descaling procedure changes. -/

namespace Sys2Proof.Machine

/-! ### What the generator's and the descaling procedure's own work changes -/

/-- A property that the own work of the generator, the channels and the descaling procedure keeps. The
work may move the generator to another state, and the procedure to another record, only where the two
parameters say so. -/
structure WaterWork (moves phases : Prop) (P : Block → Prop) : Prop where
  descale : ∀ (d : Descale) (b : Block), phases ∨ d.kept = b.descale.kept → P b →
    P (setDescale d b)
  gen : ∀ (g : Generator) (b : Block), moves ∨ g.state = b.gen.state → P b → P (setGen g b)
  genRow : ∀ (w p : Nat) (b : Block), P b → P (writeGenRow w p b)
  raised : ∀ (k : AttnKind) (d : Detail) (b : Block), P b → P (raiseAttn k d b)
  cleared : ∀ (k : AttnKind) (b : Block), P b → P (clearAttn k b)
  queued : ∀ (w : Write) (b : Block), P b → P (queueWrite w b)
  channel : ∀ (c : Channel) (r : ChannelRec) (b : Block), P b → P (setChannel c r b)

namespace WaterWork

variable {moves phases : Prop} {P : Block → Prop} (hP : WaterWork moves phases P)
include hP

theorem claimed {k : Claim} {b c : Block} (h : claim k b = some c) (hb : P b) : P c :=
  (claim_some h).2 ▸ hP.channel _ _ _ hb

theorem released (c : Channel) (o : Owner) {b : Block} (hb : P b) : P (release c o b) := by
  rcases release_cases c o b with e | ⟨-, e⟩ <;> rw [e]
  · exact hb
  · exact hP.channel _ _ _ hb

theorem ended (c : Channel) (r : EndReason) {b : Block} (hb : P b) : P (endTransfer c r b) := by
  rcases endTransfer_cases c r b with e | ⟨-, e⟩ <;> rw [e]
  · exact hb
  · exact hP.channel _ _ _ hb

theorem followCondition (k : AttnKind) (v : Bool) {b : Block} (hb : P b) :
    P (followCondition k v b) :=
  Closed.ite (hP.raised _ _ _ hb) (hP.cleared _ _ hb)

theorem followScale {b : Block} (hb : P b) : P (followScale b) :=
  hP.followCondition _ _ (hP.followCondition _ _ hb)

/-! ### The end of transfers (R58, R66) -/

theorem endAllTransfers (r : EndReason) {b : Block} (hb : P b) : P (endAllTransfers r b) :=
  hP.ended _ _ (hP.ended _ _ hb)

theorem accountFill {b : Block} (hb : P b) : P (accountFill b) :=
  hP.followScale (hP.queued _ _ (hP.gen _ _ (.inr rfl) hb))

theorem settleFill {b : Block} (hb : P b) : P (settleFill b) :=
  hP.gen _ _ (.inr rfl) (hP.released _ _ (Closed.ite (hP.accountFill hb) hb))

theorem genReleaseEnded {b : Block} (hb : P b) : P (genReleaseEnded b) := by
  unfold Machine.genReleaseEnded
  extract_lets c
  have hc : P c := Closed.ite (hP.settleFill hb) hb
  exact Closed.ite (hP.gen _ _ (.inr rfl) (hP.released _ _ hc)) hc

theorem releaseDescale (c : Channel) {b : Block} (hb : P b) : P (releaseDescale c b) :=
  hP.descale _ _ (.inr rfl) (hP.released _ _ hb)

theorem settleEnded {b : Block} (hb : P b) : P (settleEnded b) := by
  unfold Machine.settleEnded
  extract_lets c
  have hc : P c := hP.genReleaseEnded hb
  split
  · exact hP.releaseDescale _ hc
  · exact hc

/-! ### Phases of the procedure, for a generator that stays (R83 to R96) -/

theorem refreshGenRow {b : Block} (hb : P b) : P (refreshGenRow b) := by
  unfold Machine.refreshGenRow
  split <;> exact hP.genRow _ _ _ hb

theorem giveHeater (w : Nat) {b : Block} (hb : P b) : P (giveHeater w b) := by
  have hd := hP.descale { b.descale with heater := w } b (.inr rfl) hb
  exact Closed.ite (hP.refreshGenRow hd) hd

theorem waterWait (w : WaterWait) {b : Block} (hb : P b) : P (waterWait w b) :=
  hP.raised _ _ _ (hP.descale _ _ (.inr rfl) hb)

theorem claimDescaleDrain {b : Block} (hb : P b) : P (claimDescaleDrain b) := by
  unfold Machine.claimDescaleDrain
  refine Closed.ite ?_ hb
  split
  next h => exact hP.descale _ _ (.inr rfl) (hP.claimed h hb)
  next => exact hb

section
variable (hp : phases)
include hp

theorem setPhase (p : DescalePhase) {b : Block} (hb : P b) : P (setPhase p b) :=
  hP.descale _ _ (.inl hp) hb

theorem enterSoak {b : Block} (hb : P b) : P (enterSoak b) :=
  hP.giveHeater _ (hP.descale _ _ (.inl hp) (hP.setPhase hp _ hb))

theorem enterRinseHold {b : Block} (hb : P b) : P (enterRinseHold b) :=
  hP.descale _ _ (.inl hp) (hP.setPhase hp _ hb)

theorem descaleFillDone {b : Block} (hb : P b) : P (descaleFillDone b) := by
  unfold Machine.descaleFillDone
  split
  · exact hP.enterSoak hp hb
  · exact hP.enterRinseHold hp hb
  · exact hb

theorem descaleFillEnd (r : EndReason) {b : Block} (hb : P b) : P (descaleFillEnd r b) := by
  unfold Machine.descaleFillEnd
  have hr := hP.releaseDescale .fill hb
  extract_lets dry c
  split
  · exact hP.descaleFillDone hp hr
  · exact Closed.ite (hP.waterWait _ hr) (hP.descaleFillDone hp hr)
  · exact hP.waterWait _ hr
  · exact hP.waterWait _ hr
  all_goals exact hr

theorem claimDescaleFill {b : Block} (hb : P b) : P (claimDescaleFill b) := by
  unfold Machine.claimDescaleFill
  refine Closed.ite ?_ hb
  split
  next c h =>
    have hc := hP.descale { c.descale with transfer := some .fill } c (.inr rfl) (hP.claimed h hb)
    exact Closed.ite (hP.descaleFillEnd hp _ hc) hc
  next => exact hb

theorem enterDrainPhase (p : DescalePhase) {b : Block} (hb : P b) : P (enterDrainPhase p b) :=
  hP.claimDescaleDrain (hP.setPhase hp _ hb)

theorem enterAddAgent {b : Block} (hb : P b) : P (enterAddAgent b) :=
  hP.raised _ _ _ (hP.setPhase hp _ hb)

theorem enterRefillClean {b : Block} (hb : P b) : P (enterRefillClean b) :=
  hP.raised _ _ _ (hP.descale _ _ (.inl hp) (hP.setPhase hp _ hb))

theorem restartPhase (fresh : Bool) {b : Block} (hb : P b) : P (restartPhase fresh b) := by
  unfold Machine.restartPhase
  split
  · exact hb
  · exact Closed.ite (hP.enterAddAgent hp hb) (hP.claimDescaleDrain hb)
  · exact Closed.ite (hP.enterAddAgent hp hb) hb
  · exact hP.enterDrainPhase hp _ (hP.descale _ _ (.inl hp) hb)
  · exact Closed.ite (hP.enterDrainPhase hp _ hb) (hP.enterSoak hp hb)
  · exact hP.claimDescaleDrain hb
  · exact hP.claimDescaleDrain hb
  · exact Closed.ite (hP.enterRefillClean hp hb) hb
  · exact hP.claimDescaleFill hp hb
  · exact hP.enterRinseHold hp hb

end

/-! ### The service decision (R45) -/

section
variable (hm : moves)
include hm

theorem enterGen (st : GenState) {b : Block} (hb : P b) : P (enterGen st b) :=
  hP.refreshGenRow (hP.gen _ _ (.inl hm) hb)

theorem genFillEnd (r : EndReason) {b : Block} (hb : P b) : P (genFillEnd r b) := by
  unfold Machine.genFillEnd
  extract_lets c d
  have hc : P c := hP.settleFill hb
  have hd : P d := by
    unfold d raiseOption
    split
    · exact hP.raised _ _ _ hc
    · exact hc
  have hgo : ∀ st, P (Machine.enterGen st d) := fun st => hP.enterGen hm st hd
  split
  · exact hc
  · exact hc
  all_goals
    split
    · exact Closed.ite (hgo _) (Closed.ite (hgo _) (hgo _))
    · exact Closed.ite (hgo _) (Closed.ite hd (hgo _))
    · exact Closed.ite (hgo _) (Closed.ite hd (hgo _))
    · exact hd

theorem startFilling {b c : Block} (h : startFilling b = some c) (hb : P b) : P c := by
  obtain ⟨d, hd, rfl⟩ := Option.map_eq_some_iff.mp h
  obtain ⟨e, he, rfl⟩ := Option.map_eq_some_iff.mp hd
  have hg := hP.enterGen hm .filling (hP.gen { e.gen with held := some .serviceFill } e (.inr rfl)
    (hP.claimed he hb))
  exact Closed.ite (hP.genFillEnd hm _ hg) hg

theorem restIdle {b : Block} (hb : P b) : P (restIdle b) :=
  hP.enterGen hm _ (hP.gen _ _ (.inr rfl) hb)

theorem serviceDecision {b : Block} (hb : P b) : P (serviceDecision b) := by
  unfold Machine.serviceDecision
  have hr := hP.restIdle hm hb
  have hg := hP.gen { b.gen with fillRefused := false } b (.inr rfl) hb
  refine Closed.ite hr (Closed.ite hr ?_)
  split
  · split
    next h => exact hP.startFilling hm h hg
    next => exact hP.gen _ _ (.inr rfl) hr
  · split
    next h => exact hP.startFilling hm h hg
    next => exact hP.gen _ _ (.inr rfl) hr
  all_goals exact hP.enterGen hm _ hg

theorem enterIdle {b : Block} (hb : P b) : P (enterIdle b) := by
  have hr := hP.restIdle hm hb
  exact Closed.ite (hP.serviceDecision hm hr) hr

end
end WaterWork

/-- A block that differs from another only where that work reaches. -/
def SameOutside (a b : Block) : Prop :=
  b = { a with
    share := b.share, gen := b.gen, fill := b.fill, drain := b.drain, descale := b.descale
    attn := b.attn, store := b.store }

theorem SameOutside.work (a : Block) : WaterWork True True (SameOutside a) where
  descale d _ _ h := congrArg (setDescale d) h
  gen g _ _ h := congrArg (setGen g) h
  genRow w p b h := congrArg (setShare (writeGenRow w p b).share) h
  raised k d b h := congrArg (setAttn (raiseAttn k d b).attn) h
  cleared k b h := congrArg (setAttn (clearAttn k b).attn) h
  queued w b h := congrArg (setStore (queueWrite w b).store) h
  channel c r _ h := by
    cases c
    · exact congrArg (setChannel .fill r) h
    · exact congrArg (setChannel .drain r) h

theorem genState_work (st : GenState) : WaterWork False True fun b => b.gen.state = st where
  descale _ _ _ h := h
  gen _ _ h hb := (h.resolve_left id).trans hb
  genRow _ _ _ h := h
  raised _ _ _ h := h
  cleared _ _ h := h
  queued _ _ h := h
  channel c _ _ h := by cases c <;> exact h

theorem kept_work (k : DescaleRec) : WaterWork True False fun b => b.descale.kept = k where
  descale _ _ h hb := (h.resolve_left id).trans hb
  gen _ _ _ h := h
  genRow _ _ _ h := h
  raised _ _ _ h := h
  cleared _ _ h := h
  queued _ _ h := h
  channel c _ _ h := by cases c <;> exact h

end Sys2Proof.Machine
end

section
/-! SUPPORT. The generator's commands (R55, R56, R96). -/

namespace Sys2Proof.Machine

/-! ### The dry-fire lock over the end of an event -/

theorem LoadOut.lock_locks (i : Interlock) (o : LoadOut) :
    (o.lock i).locks = o.locks.put i true := by
  unfold LoadOut.lock
  split <;> rfl

theorem finishEvent_dryFire_lock (a b : Block) :
    (finishEvent a b).share.loads.gen.locks.dryFire = b.share.loads.gen.locks.dryFire := by
  have hdoor : (examineDoorOpen a b).share = b.share := by
    unfold examineDoorOpen followCondition
    split_ifs <;> rfl
  have hkept : ∀ c, (examineDescaleWrite a c).share = c.share := fun c => by
    unfold examineDescaleWrite
    split_ifs <;> rfl
  have hsilence : ∀ c, (examineSilence a c).share = c.share := fun c => by
    unfold examineSilence
    split_ifs <;> rfl
  have hstandby : ∀ c, (examineStandby a c).share.loads.gen.locks.dryFire =
      c.share.loads.gen.locks.dryFire := fun c => by
    unfold examineStandby
    split_ifs
    · rfl
    · rfl
    · rw [enterStandby_eq]
      have hl := congrArg LockSet.dryFire (LoadOut.lock_locks .standby c.share.loads.gen)
      exact hl
    · rfl
  have hstore : ∀ c, (examineStore a c).share = c.share := fun c => by
    unfold examineStore
    split_ifs
    · rfl
    · rcases serveStore_cases c with e | ⟨w, -, e⟩ | ⟨n, -, e⟩ <;> rw [e] <;> rfl
  unfold finishEvent
  rw [hstore, hstandby, hsilence, hkept, hdoor]

/-! ### A cleared dry-fire (R56, R96) -/

/-- The part with the dry-fire latch and its interlock cleared, before the generator goes on. -/
def unlatched (b : Block) : Block :=
  clearInterlock .dryFire (setGen { b.gen with dryFire := false } b)

theorem clearDryFire_unlatched (b : Block) : clearDryFire b =
    if descaling (unlatched b) then restartPhase false (enterGen .descale (unlatched b))
    else enterIdle (unlatched b) := rfl

theorem clearDryFire_core (b : Block) : SameCore (unlatched b) (clearDryFire b) := by
  rw [clearDryFire_unlatched]
  have hc := SameCore.closed (unlatched b)
  have h := SameCore.refl (unlatched b)
  exact Closed.ite (restartPhase_closed hc _ (enterGen_closed hc _ h)) (enterIdle_closed hc h)

theorem clearDryFire_sameOutside (b : Block) : SameOutside b (clearDryFire b) := by
  rw [clearDryFire_unlatched]
  have hw := SameOutside.work b
  have h : SameOutside b (unlatched b) := rfl
  exact Closed.ite (hw.restartPhase trivial _ (hw.enterGen trivial _ h)) (hw.enterIdle trivial h)

theorem enterGen_state (st : GenState) (b : Block) : (enterGen st b).gen.state = st := by
  have hw : WaterWork False True fun c => c.gen.state = st := genState_work st
  exact hw.refreshGenRow (b := setGen { b.gen with state := st } b) rfl

theorem clearDryFire_descale {b : Block} (h : b.descale.kept.phase ≠ .idle) :
    (clearDryFire b).gen.state = .descale := by
  have hd : descaling (unlatched b) = true := decide_eq_true h
  rw [clearDryFire_unlatched, if_pos hd]
  exact (genState_work .descale).restartPhase trivial false (enterGen_state _ _)

theorem clearDryFire_idle {b : Block} (h : b.descale.kept.phase = .idle)
    (hs : b.climate.steamWanted = false) : (clearDryFire b).gen.state = .idle := by
  have hd : ¬ descaling (unlatched b) = true := fun he => of_decide_eq_true he h
  have hw : (restIdle (unlatched b)).climate.steamWanted = false := hs
  rw [clearDryFire_unlatched, if_neg hd, enterIdle, hw, if_neg Bool.false_ne_true]
  exact enterGen_state _ _

/-- Where a request's work, its reply and the end of its event reach. -/
theorem sameOutside_replied {k : Byte} {st : Status} {p : Payload} {a b c : Block}
    (h : SameOutside a b) (he : SameBeforeEnd (replied k st p b) c) :
    c = { a with
      life := c.life, climate := c.climate, share := c.share, gen := c.gen, fill := c.fill
      drain := c.drain, descale := c.descale, attn := c.attn, store := c.store
      link := c.link, silence := c.silence } := by
  unfold SameOutside at h
  unfold SameBeforeEnd at he
  rw [he, h]
  rfl

/-! ### The generator's commands -/

theorem generatorDrainRequest_taken {b : Block}
    (h : b.gen.state = .idle ∨ b.gen.state = .waitWater) :
    generatorDrainRequest [] b = ⟨takeGeneratorDrain b, .ok, []⟩ :=
  (if_neg (by decide)).trans (if_pos h)

theorem generatorDrainRequest_busy {b : Block} (h1 : b.gen.state ≠ .idle)
    (h2 : b.gen.state ≠ .waitWater) : generatorDrainRequest [] b = ⟨b, .busy, []⟩ :=
  (if_neg (by decide)).trans (if_neg (not_or.mpr ⟨h1, h2⟩))

theorem generatorClearRequest_refused {b : Block}
    (h : b.gen.state ≠ .fault ∨ wallCooled b = false) :
    generatorClearRequest [] b = ⟨b, .refusedState, []⟩ := by
  refine (if_neg (by decide)).trans ?_
  rcases h with h | h
  · exact if_pos h
  · split
    · rfl
    · exact if_neg (ne_true_of_eq_false h)

theorem generatorClearRequest_taken {b : Block} (h : b.gen.state = .fault)
    (hw : wallCooled b = true) :
    generatorClearRequest [] b = ⟨clearDryFire b, .ok, []⟩ :=
  (if_neg (by decide)).trans ((if_neg (not_not.mpr h)).trans (if_pos hw))

theorem wallCooled_heard (b : Block) : wallCooled (heard b) = wallCooled b := by
  unfold wallCooled wallIs
  rw [heard_sensors]

theorem takeGeneratorDrain_eq (b : Block) : takeGeneratorDrain b =
    writeGenRow 0 b.share.requests.gen.prio
      (setGen { b.gen with serviceDrain := true, state := .cooling } b) := rfl

theorem finishEvent_takeGeneratorDrain {a b : Block} (he : b.examined = a.examined)
    (hs : b.store = a.store) : finishEvent a (replied 0x20#8 .ok [] (takeGeneratorDrain b)) =
      replied 0x20#8 .ok [] (takeGeneratorDrain b) := by
  have hflush : b.life.flush = a.life.flush := congrArg Examined.flush he
  have hsettling : b.life.settling = a.life.settling := congrArg Examined.settling he
  rw [takeGeneratorDrain_eq]
  refine (finishEvent_of_moved ?_ ?_ ?_).trans (if_pos ⟨hs.symm, hflush.symm, hsettling.symm⟩)
  · exact congrArg (fun x : Examined => { x with gen := a.gen.state }) he
  · exact fun e => GenState.noConfusion e
  · exact fun e => GenState.noConfusion e

theorem generatorDrain_taken {s : State} (hs : Answers s)
    (h : s.gen.state = .idle ∨ s.gen.state = .waitWater) :
    exec (.generatorDrain []) s =
      .next (s.withBlock (replied 0x20#8 .ok [] (takeGeneratorDrain (heard s.toBlock)))) := by
  have hh : (heard s.toBlock).gen.state = .idle ∨ (heard s.toBlock).gen.state = .waitWater := by
    rwa [heard_genState]
  have hend := finishEvent_takeGeneratorDrain (heard_examined s.toBlock) (heard_store s.toBlock)
  refine (request_answers hs 0x20#8 _).trans ?_
  rw [generatorDrainRequest_taken hh]
  exact congrArg (fun c => Host.Outcome.next (s.withBlock c)) hend

/-- Settles O31: a drain is taken by a generator that rests, a clear by one that has cooled; what the
clear does outside the latch and the lock is the generator's and the procedure's own work. -/
theorem generatorCommandsAreTaken : Obligations.GeneratorCommandsAreTaken := by
  unfold Obligations.GeneratorCommandsAreTaken
  refine ⟨fun s hs => ⟨fun h => ?_, fun h1 h2 => ?_⟩, fun s hs => ⟨fun h => ?_, fun hf hw => ?_⟩⟩
  · have hrow : (heard s.toBlock).share.requests.gen = s.share.requests.gen :=
      (heard_heard s.toBlock).genRow (by rcases h with e | e <;> simp [e])
        (by rcases h with e | e <;> simp [e])
    rw [generatorDrain_taken hs h, takeGeneratorDrain_eq, hrow]
  · refine request_refused hs 0x20#8 (generatorDrainRequest_busy ?_ ?_) <;> rwa [heard_genState]
  · exact request_refused hs 0x21#8 (generatorClearRequest_refused (by
      rwa [heard_genState, wallCooled_heard]))
  · have ha := generatorClearRequest_taken (b := heard s.toBlock) (by rwa [heard_genState])
      (by rwa [wallCooled_heard])
    have hx := request_answers hs 0x21#8 (generatorClearRequest [])
    rw [ha] at hx
    have hcore := clearDryFire_core (heard s.toBlock)
    have hout := clearDryFire_sameOutside (heard s.toBlock)
    have hend := finishEvent_sameBeforeEnd s.toBlock
      (replied 0x21#8 .ok [] (clearDryFire (heard s.toBlock)))
    have hgen := congrArg Block.gen hend
    have hlink : (clearDryFire (heard s.toBlock)).link = (heard s.toBlock).link := hcore.link
    refine ⟨_, hx, ?_, ?_, fun hp => ?_, fun hp hsw => ?_, ?_, ?_⟩
    · exact (congrArg Generator.dryFire hgen).trans hcore.dryFire
    · refine (finishEvent_dryFire_lock _ _).trans ?_
      exact congrArg (fun x : PerLoad LoadOut => x.gen.locks.dryFire) hcore.loads
    · refine (congrArg Generator.state hgen).trans (clearDryFire_descale ?_)
      rwa [heard_descale]
    · refine (congrArg Generator.state hgen).trans (clearDryFire_idle ?_ ?_)
      · rwa [heard_descale]
      · rwa [heard_steamWanted]
    · refine (congrArg (fun b : Block => b.link.owed) hend).trans ?_
      change some _ = _
      rw [hlink, heard_dropped]
      rfl
    · exact congrArg s.withBlock (sameOutside_replied hout hend)

end Sys2Proof.Machine
end

section
/-! SUPPORT. Standby entered by the request and left at a byte (R182 to R184, R187). -/

namespace Sys2Proof.Machine

/-! ### A STANDBY request (R182, R183) -/

theorem standbyRequest_refused {b : Block} (h : standbyAllowed b = false) :
    standbyRequest [] b = ⟨b, .refusedState, []⟩ :=
  (if_neg (by decide)).trans (if_pos (by rw [h]; rfl))

theorem standbyRequest_waits {b : Block} (h : standbyAllowed b = true)
    (hg : b.gen.state = .cooling ∨ b.gen.state = .draining) :
    standbyRequest [] b =
      ⟨setLife { b.life with power := .standbyRequested } b, .ok, [1#8]⟩ := by
  refine (if_neg (by decide)).trans ((if_neg (by rw [h]; decide)).trans ?_)
  rcases hg with e | e <;> rw [e] <;> rfl

theorem standbyRequest_enters {b : Block} (h : standbyAllowed b = true)
    (hg : b.gen.state = .idle) : standbyRequest [] b = ⟨enterStandby b, .ok, [2#8]⟩ := by
  refine (if_neg (by decide)).trans ((if_neg (by rw [h]; decide)).trans ?_)
  rw [hg]
  rfl

theorem enterStandby_examined (b : Block) : (enterStandby b).examined = b.examined := by
  rw [enterStandby_eq]
  rfl

theorem serveStore_eq {b : Block} (h : b.life.flush = .none) :
    serveStore b = setStore (serveStore b).store b := by
  unfold serveStore
  rw [h]
  split
  · rfl
  split
  · rfl
  split
  · rfl
  · rfl

theorem examineStore_eq (a : Block) {b : Block} (h : b.life.flush = .none) :
    examineStore a b = setStore (examineStore a b).store b := by
  unfold examineStore
  split_ifs
  · rfl
  · exact serveStore_eq h

/-- The part in standby with the reply owed, its store served. -/
def standbyEntered (r : Store) (b : Block) : Block :=
  setStore r (replied 0x04#8 .ok [2#8] (enterStandby b))

theorem finishEvent_enterStandby {a b : Block} (he : b.examined = a.examined)
    (hf : a.life.flush = .none) :
    ∃ r, finishEvent a (replied 0x04#8 .ok [2#8] (enterStandby b)) = standbyEntered r b := by
  have hx : (replied 0x04#8 .ok [2#8] (enterStandby b)).examined = a.examined :=
    (enterStandby_examined b).trans he
  have hn : (replied 0x04#8 .ok [2#8] (enterStandby b)).life.flush = .none :=
    (congrArg Examined.flush hx).trans hf
  exact ⟨_, (finishEvent_of_examined hx).trans (examineStore_eq a hn)⟩

theorem standbyEntered_eq (r : Store) (b : Block) : standbyEntered r b =
    { b with
      life := (standbyEntered r b).life, climate := (standbyEntered r b).climate
      share := (standbyEntered r b).share, store := (standbyEntered r b).store
      link := (standbyEntered r b).link, silence := (standbyEntered r b).silence } := by
  have h := enterStandby_sameBeforeEnd b
  have hattn : (enterStandby b).attn = b.attn := by
    rw [enterStandby_eq]
    rfl
  unfold standbyEntered
  generalize enterStandby b = c at h hattn
  unfold SameBeforeEnd at h
  rw [hattn] at h
  rw [h]
  rfl

theorem standbyEntered_load (r : Store) (b : Block) (l : Load) :
    (standbyEntered r b).share.loads.get l = ((b.share.loads.get l).lock .standby).rested := by
  unfold standbyEntered
  rw [enterStandby_eq]
  exact PerLoad.get_mapWith (fun _ o => (o.lock .standby).rested) b.share.loads l

theorem standbyEntered_share (r : Store) (b : Block) :
    (standbyEntered r b).share.grants = ⟨0, 0, 0, 0⟩ ∧
      (standbyEntered r b).share.windowTimer = false ∧
      (standbyEntered r b).share.requests = b.share.requests := ⟨rfl, rfl, rfl⟩

theorem standbyEntered_climate (r : Store) (b : Block) :
    (standbyEntered r b).climate = { b.climate with lampMark := false } := rfl

theorem standbyEntered_owed (r : Store) (b : Block) :
    (standbyEntered r b).link.owed = some ⟨0x84#8, [statusByte .ok b.link.dropped, 2#8]⟩ := rfl

/-! ### A byte in standby (R184, R187) -/

theorem lineByte_standby {b : Block} (x : Byte) (hr : receiving b = true)
    (hp : b.life.power = .standby) :
    lineByte x b = setLink (huntByte x b.link.hunting) (wake .link b) := by
  have hw : (wake .link b).link = b.link := by rw [wake_eq]
  have hx : (setLink (huntByte x b.link.hunting) (wake .link b)).examined = b.examined := by
    unfold wake
    rw [if_pos hp]
    rfl
  have hs : (setLink (huntByte x b.link.hunting) (wake .link b)).store = b.store := by
    rw [wake_eq]
    rfl
  have hl : lineByte x b =
      finishEvent b (setLink (huntByte x (wake .link b).link.hunting) (wake .link b)) := by
    unfold lineByte
    rw [hr, hp]
    rfl
  rw [hl, hw]
  exact finishEvent_same hx hs

theorem wake_standby (c : WakeCause) {b : Block} (hp : b.life.power = .standby) :
    wake c b =
      setSilence { running := silenceCondition b, ms := 0, mark := false }
        (setShare { b.share with
            windowTimer := true
            loads := b.share.loads.mapWith fun _ o => o.unlock .standby }
          (setLife { b.life with power := .awake, wake := some c } b)) :=
  if_pos hp

/-- Settles O19: the request ends with nothing to examine but the store, the byte with nothing at
all. -/
theorem standbyIsEnteredAndLeft : Obligations.StandbyIsEnteredAndLeft := by
  unfold Obligations.StandbyIsEnteredAndLeft
  refine ⟨fun s hs => ⟨fun h => ?_, fun h hg => ?_, fun h hg => ?_⟩, fun x s hr hp => ?_⟩
  · exact request_refused hs 0x04#8 (standbyRequest_refused h)
  · have ha := standbyRequest_waits (b := heard s.toBlock) h (by rwa [heard_genState])
    exact request_kept hs 0x04#8 ha (heard_examined _) (heard_store _)
  · have ha := standbyRequest_enters (b := heard s.toBlock) h (by rwa [heard_genState])
    have hx := request_answers hs 0x04#8 (standbyRequest [])
    obtain ⟨r, he⟩ := finishEvent_enterStandby (heard_examined s.toBlock) hs.flush
    rw [ha] at hx
    obtain ⟨hgrants, hwindow, hrequests⟩ := standbyEntered_share r (heard s.toBlock)
    have hclimate := standbyEntered_climate r (heard s.toBlock)
    have howed := standbyEntered_owed r (heard s.toBlock)
    rw [heard_dropped] at howed
    refine ⟨_, hx.trans (congrArg (fun c => Host.Outcome.next (s.withBlock c)) he), rfl,
      fun l => ?_, hgrants, hwindow, congrArg Climate.lampMark hclimate, rfl, howed,
      congrArg s.withBlock (standbyEntered_eq r _), hclimate, hrequests⟩
    have hl := standbyEntered_load r (heard s.toBlock) l
    have hlock := congrArg LockSet.standby
      (LoadOut.lock_locks .standby ((heard s.toBlock).share.loads.get l))
    exact ⟨(congrArg (fun o : LoadOut => o.locks.standby) hl).trans hlock,
      congrArg LoadOut.applied hl⟩
  · have hx : exec (.standbyByteReceived x) s = .next (s.withBlock _) :=
      congrArg (fun c => Host.Outcome.next (s.withBlock c))
        ((lineByte_standby x hr hp).trans (congrArg _ (wake_standby .link hp)))
    refine ⟨_, hx, rfl, fun l => ?_, rfl, rfl, rfl, ?_, rfl, rfl⟩
    · exact congrArg LoadOut.locks (PerLoad.get_mapWith _ _ l)
    · change huntByte x s.link.hunting = _
      unfold huntByte
      split <;> rfl

end Sys2Proof.Machine
end

section
/-! SUPPORT. The budget and the ten settings over the link (R27, R60, R176). -/

namespace Sys2Proof.Machine

/-! ### The ten fields of SETTINGS WRITE (R176) -/

theorem edgeOf_eq (n : Nat) : edgeOf n =
    if n < 2 then some (if n = 0 then .rising else .falling) else none := by
  match n with
  | 0 | 1 | _ + 2 => rfl

theorem flagOf_eq (n : Nat) : flagOf n = if n < 2 then some (decide (n = 1)) else none := by
  match n with
  | 0 | 1 | _ + 2 => rfl

theorem clampPrescale_eq (n : Nat) : clampPrescale n =
    if 8 ≤ n then 8 else if 4 ≤ n then 4 else if 2 ≤ n then 2 else 1 := by
  unfold clampPrescale
  split_ifs <;> omega

/-- The settings that fourteen bytes give, each in its range. -/
def clampedSettings (m : MainsClass) (p : Payload) : Settings :=
  { budget := max 1200 (min (budgetMax m) (wordAt p 0))
    shed := min 7 (byteAt p 2)
    hardness := min 500 (wordAt p 3)
    kf := max 500 (min 5000 (wordAt p 5))
    edge := if byteAt p 7 = 0 then .rising else .falling
    prescale :=
      if 8 ≤ byteAt p 8 then 8 else if 4 ≤ byteAt p 8 then 4
      else if 2 ≤ byteAt p 8 then 2 else 1
    agentClass := max 1 (min 3 (byteAt p 9))
    resumeWindow := min 30 (byteAt p 10)
    offset := max (-50) (min 50 (signedAt p 11))
    lampCooking := decide (byteAt p 13 = 1) }

theorem settingsFields_invalid {m : MainsClass} {p : Payload}
    (h : 2 ≤ byteAt p 7 ∨ 2 ≤ byteAt p 13) : settingsFields m p = none := by
  unfold settingsFields
  rw [edgeOf_eq, flagOf_eq]
  rcases h with h | h
  · rw [if_neg (Nat.not_lt.mpr h)]
    rfl
  · rw [if_neg (Nat.not_lt.mpr h)]
    cases (if byteAt p 7 < 2 then _ else _) <;> rfl

theorem settingsFields_clamped (m : MainsClass) {p : Payload} (h1 : byteAt p 7 < 2)
    (h2 : byteAt p 13 < 2) : settingsFields m p = some (clampedSettings m p) := by
  unfold settingsFields
  rw [edgeOf_eq, flagOf_eq, if_pos h1, if_pos h2, clampPrescale_eq]
  rfl

/-! ### The requests of the settings -/

theorem budgetSetRequest_taken {p : Payload} (b : Block) (h : p.length = 3) :
    budgetSetRequest p b =
      ⟨queueSettings (setSettings
          { b.settings with
            budget := clampBudget b.straps.mains (wordAt p 0), shed := min 7 (byteAt p 2) } b),
        .ok, u16 (clampBudget b.straps.mains (wordAt p 0)) ++ u8 (min 7 (byteAt p 2))⟩ :=
  if_neg (not_not.mpr h)

theorem settingsReadRequest_answers (b : Block) :
    settingsReadRequest [] b = ⟨b, .ok, settingsBytes b.settings⟩ := if_neg (by decide)

theorem settingsWriteRequest_invalid {p : Payload} (b : Block) (h : p.length = 14)
    (hv : settingsFields b.straps.mains p = none) :
    settingsWriteRequest p b = ⟨b, .invalid, []⟩ := by
  refine (if_neg (not_not.mpr h)).trans ?_
  rw [hv]
  rfl

theorem settingsWriteRequest_taken {p : Payload} {v : Settings} (b : Block) (h : p.length = 14)
    (hv : settingsFields b.straps.mains p = some v) :
    settingsWriteRequest p b = ⟨takeSettings v b, .ok, settingsBytes v⟩ := by
  refine (if_neg (not_not.mpr h)).trans ?_
  rw [hv]
  rfl

theorem applyKf_examined (n : Nat) (b : Block) : (applyKf n b).examined = b.examined := by
  unfold applyKf
  split <;> rfl

theorem applyPrescale_examined (n : Nat) (b : Block) :
    (applyPrescale n b).examined = b.examined := by
  unfold applyPrescale
  split <;> rfl

theorem takeSettings_examined (v : Settings) (b : Block) :
    (takeSettings v b).examined = b.examined :=
  (applyPrescale_examined v.prescale (applyKf v.kf b)).trans (applyKf_examined v.kf b)

/-- The changes that new settings bring with them, before they are stored (R60). -/
theorem takeSettings_eq (v : Settings) (b : Block) :
    takeSettings v b =
      let withKf :=
        if v.kf = b.settings.kf then b
        else queueWrite (.scale { b.gen.account with rw := 0 })
          (setGen { b.gen with account := { b.gen.account with rw := 0 } } b)
      let withPrescale :=
        if v.prescale = b.settings.prescale then withKf
        else setChannel .fill { b.fill with divider := 0 } withKf
      queueWrite (.settings v) (setSettings v withPrescale) := by
  have hset : (applyKf v.kf b).settings = b.settings := by
    unfold applyKf
    split <;> rfl
  have hfill : (applyKf v.kf b).fill = b.fill := by
    unfold applyKf
    split <;> rfl
  unfold takeSettings applyPrescale
  rw [hset, hfill]
  rfl

/-- Settles O26: each request ends with the store to serve, or with nothing to examine. -/
theorem settingsAreWrittenClamped : Obligations.SettingsAreWrittenClamped := by
  unfold Obligations.SettingsAreWrittenClamped
  refine ⟨fun p s hs hq hp => ?_, fun p s hs => ⟨?_, fun hp hv => ?_, fun hq hp h1 h2 => ?_⟩⟩
  · have ha := budgetSetRequest_taken (heard s.toBlock) hp
    rw [heard_settings, heard_straps] at ha
    exact request_served hs hq 0x18#8 ha (heard_examined _)
  · have ha := settingsReadRequest_answers (heard s.toBlock)
    rw [heard_settings] at ha
    exact request_refused hs 0x69#8 ha
  · exact request_refused hs 0x68#8
      (settingsWriteRequest_invalid _ hp (settingsFields_invalid hv))
  · have ha := settingsWriteRequest_taken (heard s.toBlock) hp (settingsFields_clamped _ h1 h2)
    have hx := request_served hs hq 0x68#8 ha ((takeSettings_examined _ _).trans (heard_examined _))
    rw [takeSettings_eq, heard_settings, heard_straps, heard_account, heard_fill] at hx
    exact hx

end Sys2Proof.Machine
end

section
/-! SUPPORT. Loads held off and transfers ended (R39, R58, R79, R181). -/

namespace Sys2Proof.Machine

/-! ### Transfers that have ended (R58, R79) -/

/-- Neither channel has a transfer in flight. -/
def NoTransfer (b : Block) : Prop := b.fill.inFlight = false ∧ b.drain.inFlight = false

theorem NoTransfer.release (c : Channel) (o : Owner) {b : Block} (h : NoTransfer b) :
    NoTransfer (release c o b) := by
  rcases release_cases c o b with e | ⟨-, e⟩ <;> rw [e]
  · exact h
  · cases c
    · exact ⟨rfl, h.2⟩
    · exact ⟨h.1, rfl⟩

theorem endTransfer_inFlight (c : Channel) (r : EndReason) (b : Block) :
    ((endTransfer c r b).channel c).inFlight = false := by
  unfold endTransfer
  extract_lets x
  split
  · cases c <;> rfl
  · exact eq_false_of_ne_true ‹_›

theorem endTransfer_drain_fill (r : EndReason) (b : Block) :
    (endTransfer .drain r b).fill = b.fill := by
  rcases endTransfer_cases .drain r b with e | ⟨-, e⟩ <;> rw [e]
  rfl

theorem endAllTransfers_noTransfer (r : EndReason) (b : Block) :
    NoTransfer (endAllTransfers r b) := by
  refine ⟨?_, endTransfer_inFlight .drain r _⟩
  rw [endAllTransfers, endTransfer_drain_fill]
  exact endTransfer_inFlight .fill r b

theorem NoTransfer.accountFill {b : Block} (h : NoTransfer b) : NoTransfer (accountFill b) := by
  have hfollow : ∀ (k : AttnKind) (v : Bool) {c : Block}, NoTransfer c →
      NoTransfer (followCondition k v c) := fun _ _ _ h => Closed.ite h h
  unfold Machine.accountFill followScale
  exact hfollow _ _ (hfollow _ _ h)

theorem NoTransfer.settleEnded {b : Block} (h : NoTransfer b) : NoTransfer (settleEnded b) := by
  have hfill : ∀ {c : Block}, NoTransfer c → NoTransfer (settleFill c) := fun h =>
    NoTransfer.release (b := ite _ _ _) .fill .generator (Closed.ite h.accountFill h)
  have hgen : NoTransfer (genReleaseEnded b) := by
    unfold genReleaseEnded
    extract_lets c
    have hc : NoTransfer c := Closed.ite (hfill h) h
    exact Closed.ite (hc.release .drain .generator) hc
  unfold Machine.settleEnded
  extract_lets c
  split
  · exact NoTransfer.release (b := c) _ .descale hgen
  · exact hgen

/-! ### A part that is switched off (R39, R175, R181) -/

/-- A part whose loads are held off and whose transfers have ended, against the part before it. -/
structure SwitchedOff (a b : Block) : Prop where
  outside : SameOutside a b
  held : ∀ l, (b.share.loads.get l).locks.mainsLoss = true
  ended : NoTransfer b
  genState : b.gen.state = a.gen.state
  kept : b.descale.kept = a.descale.kept
  inFlight : b.store.inFlight = a.store.inFlight

theorem shutDown_switchedOff (r : EndReason) (b : Block) : SwitchedOff b (shutDown r b) := by
  have hcore : SameCore (setInterlock .mainsLoss b) (shutDown r b) :=
    settleEnded_closed (SameCore.closed _) (endAllTransfers_closed (SameCore.closed _) r (.refl _))
  have hwork : ∀ {m p : Prop} {P : Block → Prop}, WaterWork m p P → P (setInterlock .mainsLoss b) →
      P (shutDown r b) := fun hP h => hP.settleEnded (hP.endAllTransfers r h)
  exact
    { outside := hwork (SameOutside.work b) rfl
      held := fun l => by
        rw [hcore.loads, setInterlock_loads, PerLoad.get_mapWith]
        cases l <;> exact congrArg LockSet.mainsLoss (LoadOut.lock_locks .mainsLoss _)
      ended := (endAllTransfers_noTransfer r _).settleEnded
      genState := hwork (genState_work b.gen.state) rfl
      kept := hwork (kept_work b.descale.kept) rfl
      inFlight := hcore.inFlight }

/-- The start of a flush: what the store's service, which comes last, leaves. -/
theorem serveStore_life (b : Block) :
    (serveStore b).life = { b.life with note := (serveStore b).life.note } := by
  rcases serveStore_cases b with e | ⟨w, -, e⟩ | ⟨n, -, e⟩ <;> rw [e] <;> rfl

/-- The service of the store reaches the store and the note's stage only. -/
theorem serveStore_frame (b : Block) :
    serveStore b = setLife (serveStore b).life (setStore (serveStore b).store b) := by
  rcases serveStore_cases b with e | ⟨w, -, e⟩ | ⟨n, -, e⟩ <;> rw [e] <;> rfl

theorem serveStore_inFlight {b : Block} (h : b.store.inFlight.isSome = true) :
    serveStore b = b := if_pos h

end Sys2Proof.Machine
end

section
/-! SUPPORT. The loss of mains and its flush (R175). -/

namespace Sys2Proof.Machine

/-! ### The loss of mains, and the RESET line (R175, R181) -/

/-- The life record with a mains flush begun. -/
def Life.lost (x : Life) : Life :=
  { x with mainsLost := true, flush := .mains, note := .waiting, noteMark := false }

/-- The life record with a reset flush begun. -/
def Life.reset (x : Life) : Life :=
  { x with resetLine := true, flush := .resetLine, note := .waiting, noteMark := true }

theorem live_iff (b : Block) : live b = true ↔
    b.life.mainsLost = false ∧ b.life.resetLine = false ∧ b.life.flush = .none := by
  simp only [live, Bool.and_eq_true, Bool.not_eq_true', decide_eq_true_eq, and_assoc]

theorem loseMains_live {b : Block} (h : live b = true) :
    loseMains b =
      serveStore (setLife (stopTimers (stopLink (shutDown .interlock b))).life.lost
        (stopTimers (stopLink (shutDown .interlock b)))) := by
  obtain ⟨hm, -, hf⟩ := (live_iff b).mp h
  unfold loseMains
  rw [hm, hf]
  rfl

theorem assertReset_live {b : Block} (h : live b = true) :
    assertReset b =
      serveStore (setLife (stopLink (shutDown .interlock b)).life.reset
        (stopLink (shutDown .interlock b))) := by
  obtain ⟨hm, hr, hf⟩ := (live_iff b).mp h
  unfold assertReset
  rw [hm, hr, hf]
  rfl

theorem mainsLoss_frame {a b : Block} (x : Life) (h : SameOutside a b) {c : Block}
    (hc : c = serveStore (setLife x (stopTimers (stopLink b)))) :
    c = { a with
      life := c.life, climate := c.climate, share := c.share, gen := c.gen, fill := c.fill
      drain := c.drain, descale := c.descale, attn := c.attn, store := c.store
      link := c.link } := by
  have hs := hc.trans (serveStore_frame _)
  rw [← hc] at hs
  unfold SameOutside at h
  rw [hs, h]
  rfl

theorem reset_frame {a b : Block} (x : Life) (h : SameOutside a b) {c : Block}
    (hc : c = serveStore (setLife x (stopLink b))) :
    c = { a with
      life := c.life, share := c.share, gen := c.gen, fill := c.fill, drain := c.drain
      descale := c.descale, attn := c.attn, store := c.store, link := c.link } := by
  have hs := hc.trans (serveStore_frame _)
  rw [← hc] at hs
  unfold SameOutside at h
  rw [hs, h]
  rfl

theorem SameOutside.climate {a b : Block} (h : SameOutside a b) : b.climate = a.climate := by
  unfold SameOutside at h
  rw [h]

/-- What the service of a store in a flush leaves of the rest of the part. -/
theorem serveStore_rest (b : Block) :
    (serveStore b).share = b.share ∧ (serveStore b).climate = b.climate ∧
      (serveStore b).gen = b.gen ∧ (serveStore b).fill = b.fill ∧
      (serveStore b).drain = b.drain ∧ (serveStore b).descale = b.descale ∧
      (serveStore b).link = b.link := by
  rw [serveStore_frame]
  exact ⟨rfl, rfl, rfl, rfl, rfl, rfl, rfl⟩

/-- Settles O30: the loads go off and the transfers end; the flush that begins reaches the store and
the note only. -/
theorem mainsLossSwitchesOff : Obligations.MainsLossSwitchesOff := by
  unfold Obligations.MainsLossSwitchesOff
  intro s hs
  obtain ⟨hout, hheld, hended, hgen, hkept, hflight⟩ := shutDown_switchedOff .interlock s.toBlock
  have hx := loseMains_live hs
  generalize shutDown .interlock s.toBlock = b at hout hheld hended hgen hkept hflight hx
  obtain ⟨hshare, hclimate, hgen', hfill, hdrain, hdescale, hlink⟩ :=
    serveStore_rest (setLife (stopTimers (stopLink b)).life.lost (stopTimers (stopLink b)))
  have hlife := serveStore_life
    (setLife (stopTimers (stopLink b)).life.lost (stopTimers (stopLink b)))
  have hframe := mainsLoss_frame _ hout hx
  have hserved := serveStore_inFlight
    (b := setLife (stopTimers (stopLink b)).life.lost (stopTimers (stopLink b)))
  rw [← hx] at hshare hclimate hgen' hfill hdrain hdescale hlink hlife
  rw [← hx] at hserved
  have hlost : (loseMains s.toBlock).life.mainsLost = true := by rw [hlife]; rfl
  have hc : b.climate = s.climate := hout.climate
  refine ⟨s.withBlock (loseMains s.toBlock), rfl, hlost, ?_, ?_, ?_, ?_, ?_, ?_, ?_, ?_, ?_, ?_, ?_,
    ?_, congrArg s.withBlock hframe⟩
  · change (loseMains s.toBlock).life.flush = _
    rw [hlife]
    rfl
  · change ∀ l, ((loseMains s.toBlock).share.loads.get l).locks.mainsLoss = true
    rw [hshare]
    exact hheld
  · change (!live (loseMains s.toBlock) || _) = true
    simp [live, hlost]
  · exact (congrArg ChannelRec.inFlight hfill).trans hended.1
  · exact (congrArg ChannelRec.inFlight hdrain).trans hended.2
  · exact congrArg Share.windowTimer hshare
  · exact congrArg Climate.periodTimer hclimate
  · exact congrArg Link.owed hlink
  · intro hf
    have hb : b.store.inFlight.isSome = true := by rwa [hflight]
    exact (congrArg (fun c : Block => c.store.inFlight) (hserved hb)).trans hflight
  · exact (congrArg Generator.state hgen').trans hgen
  · exact hclimate.trans (by rw [← hc]; rfl)
  · exact (congrArg Descale.kept hdescale).trans hkept

end Sys2Proof.Machine
end

section
/-! SUPPORT. The reset state. -/

namespace Sys2Proof.Machine

/-! ### The reset state's blocks -/

theorem reset_queuesSound : QueuesSound Block.reset where
  reports := Nat.zero_le 8
  writes := ⟨List.nodup_nil, List.not_mem_nil⟩
  transfers h := absurd h.1 (by decide)
  store _ := .inr rfl
  life :=
    { held := fun h => absurd h (by decide)
      noted := fun h => absurd h (by simp [NoteInFlight, Block.reset, Store.initial])
      awake := fun _ => rfl }
  service :=
    { wanted := rfl
      serves := fun h => absurd h (by decide)
      filling := fun h => absurd h (by decide) }

theorem reset_attnSound : Block.reset.attn.Sound where
  kinds := by decide
  chain k := by simp [Block.reset, Attn.empty]
  falling := List.Pairwise.nil

theorem reset_outputSafe : OutputSafe Block.reset where
  agree l := by cases l <;> rfl
  fires l h := by cases l <;> exact absurd h (by decide)

theorem reset_steamSafe : SteamSafe Block.reset where
  cold _ _ := by decide
  taken _ h := absurd rfl h
  record _ := rfl
  retained _ := rfl
  writes _ h := absurd h List.not_mem_nil

theorem initialSettings_inRange : Settings.initial.InRange where
  shed := by decide
  hardness := by decide
  kf := by decide
  prescale := by decide
  agentClass := by decide
  resumeWindow := by decide
  offset := by decide

theorem reset_settingsSound : SettingsSound Block.reset where
  held := initialSettings_inRange
  budget := by decide
  retained := initialSettings_inRange
  writes _ h := absurd h List.not_mem_nil

/-- Settles O4, block by block. -/
theorem resetIsSound : Obligations.ResetIsSound := by
  unfold Obligations.ResetIsSound
  exact ⟨reset_queuesSound, reset_attnSound, reset_outputSafe, reset_steamSafe,
    reset_settingsSound⟩

end Sys2Proof.Machine
end

section
/-! SUPPORT. A recipe and the settings over the link, byte by byte (R100 to R107, R176, R194). -/

namespace Sys2Proof.Machine

/-! ### Numbers in bytes (R194) -/

theorem natOf_u16 {n : Nat} (h : n < 65536) : natOf (u16 n) = n := by
  simp only [natOf, u16, List.foldl_cons, List.foldl_nil, BitVec.toNat_ofNat]
  omega

theorem signed16_i16 {v : Int} (h : FitsSigned v) : signed16 (i16 v) = v := by
  obtain ⟨hlo, hhi⟩ := h
  have he : v.emod 65536 = v % 65536 := rfl
  unfold signed16 i16
  rw [natOf_u16 (by omega), he]
  dsimp only
  split <;> omega

theorem toNat_ofNat_byte {n : Nat} (h : n < 256) : (BitVec.ofNat 8 n).toNat = n := by
  rw [BitVec.toNat_ofNat]
  omega

theorem byteAt_append {p : Payload} {k : Nat} (q : Payload) (i : Nat) (h : p.length = k) :
    byteAt (p ++ q) (k + i) = byteAt q i := by
  subst h
  simp [byteAt, List.getD, List.getElem?_append_right]

theorem bytesAt_append {p q : Payload} {i n : Nat} (r : Payload) (hp : p.length = i)
    (hq : q.length = n) : bytesAt (p ++ (q ++ r)) i n = q := by
  subst hp hq
  simp [bytesAt]

/-! ### Codes -/

theorem edgeOf_code (e : FlowEdge) : edgeOf (edgeCode e) = some e := by cases e <;> rfl
theorem flagOf_toNat (f : Bool) : flagOf f.toNat = some f := by cases f <;> rfl
theorem biasOf_code (b : Bias) : biasOf b.code = some b := by cases b <;> rfl
theorem endKindOf_code (e : EndKind) : endKindOf e.code = some e := by cases e <;> rfl
theorem promptOf_code (k : PromptKind) : promptOf k.code = some k := by cases k <;> rfl

theorem stepModeOf_code (m : StepMode) : stepModeOf m.code = some m := by
  cases m with
  | cook m => cases m <;> rfl
  | rest => rfl

theorem edgeCode_lt (e : FlowEdge) : edgeCode e < 256 := by cases e <;> decide
theorem biasCode_lt (b : Bias) : b.code < 256 := by cases b <;> decide
theorem promptCode_lt (k : PromptKind) : k.code < 256 := by cases k <;> decide
theorem endKindCode_lt (e : EndKind) : e.code < 16 := by cases e <;> decide

theorem stepModeCode_lt (m : StepMode) : m.code < 16 := by
  cases m with
  | cook m => cases m <;> decide
  | rest => decide

/-! ### The settings (R176) -/

theorem settingsFields_settingsBytes {m : MainsClass} {v : Settings} (h : v.InRange)
    (hlo : 1200 ≤ v.budget) (hhi : v.budget ≤ budgetMax m) :
    settingsFields m (settingsBytes v) = some v := by
  obtain ⟨hshed, hhard, ⟨hkf1, hkf2⟩, hpre, ⟨hagent1, hagent2⟩, hwindow, ⟨hoff1, hoff2⟩⟩ := h
  have hmax : budgetMax m ≤ 7360 := by cases m <;> decide
  have hbudget : wordAt (settingsBytes v) 0 = v.budget := natOf_u16 (by omega)
  have hshed' : byteAt (settingsBytes v) 2 = v.shed := toNat_ofNat_byte (by omega)
  have hhard' : wordAt (settingsBytes v) 3 = v.hardness := natOf_u16 (by omega)
  have hkf : wordAt (settingsBytes v) 5 = v.kf := natOf_u16 (by omega)
  have hedge : byteAt (settingsBytes v) 7 = edgeCode v.edge := toNat_ofNat_byte (edgeCode_lt _)
  have hpre' : byteAt (settingsBytes v) 8 = v.prescale := toNat_ofNat_byte (by omega)
  have hagent : byteAt (settingsBytes v) 9 = v.agentClass := toNat_ofNat_byte (by omega)
  have hwindow' : byteAt (settingsBytes v) 10 = v.resumeWindow := toNat_ofNat_byte (by omega)
  have hoff : signedAt (settingsBytes v) 11 = v.offset :=
    signed16_i16 ⟨by omega, by omega⟩
  have hlamp : byteAt (settingsBytes v) 13 = v.lampCooking.toNat :=
    toNat_ofNat_byte (v.lampCooking.toNat_lt.trans (by decide))
  have hclamp : clampPrescale v.prescale = v.prescale := by
    rcases hpre with e | e | e | e <;> rw [e] <;> rfl
  have hcb : clampBudget m v.budget = v.budget := by
    unfold clampBudget clampNat
    omega
  have hck : clampNat 500 5000 v.kf = v.kf := by
    unfold clampNat
    omega
  have hca : clampNat 1 3 v.agentClass = v.agentClass := by
    unfold clampNat
    omega
  have hco : clampInt (-50) 50 v.offset = v.offset := by
    unfold clampInt
    omega
  unfold settingsFields
  rw [hbudget, hshed', hhard', hkf, hedge, hpre', hagent, hwindow', hoff, hlamp, edgeOf_code,
    flagOf_toNat, hclamp, hcb, hck, hca, hco, min_eq_right hshed, min_eq_right hhard,
    min_eq_right hwindow]
  rfl

/-! ### A step (R101, R103) -/

theorem step_bytes_length (x : Step) : x.bytes.length = 16 := rfl

theorem bitsOf_testBit (fs : List Bool) (i : Nat) : (bitsOf fs).testBit i = fs.getD i false := by
  induction fs generalizing i with
  | nil => simp [bitsOf]
  | cons f fs ih =>
    cases i with
    | zero => cases f <;> simp [bitsOf]
    | succ i =>
      have hhalf : (f.toNat + 2 * bitsOf fs) / 2 = bitsOf fs := by
        have := f.toNat_lt
        omega
      rw [bitsOf, Nat.testBit_succ, hhalf, ih]
      rfl

theorem bitsOf_lt (fs : List Bool) : bitsOf fs < 2 ^ fs.length := by
  induction fs with
  | nil => decide
  | cons f fs ih =>
    have := f.toNat_lt
    rw [bitsOf, List.length_cons, Nat.pow_succ]
    omega

/-- A flag byte's bits are its flags. -/
theorem setByte_testBit {fs : List Bool} (h : fs.length ≤ 8) (i : Nat) :
    (BitVec.ofNat 8 (bitsOf fs)).toNat.testBit i = fs.getD i false := by
  have hlt : bitsOf fs < 256 := (bitsOf_lt fs).trans_le (Nat.pow_le_pow_right (by decide) h)
  rw [toNat_ofNat_byte hlt, bitsOf_testBit]

/-- A field that may be absent, in the range of its bytes where it is read as 0 then. -/
theorem getD_of_mem {α : Type} {p : α → Prop} {o : Option α} {d : α} (hd : p d)
    (h : ∀ v ∈ o, p v) : p (o.getD d) := by
  cases o with
  | none => exact hd
  | some v => exact h v rfl

/-- An optional field that is present exactly where the end kind uses it. -/
theorem optional_field {α : Type} {o : Option α} {e k : EndKind} {d : α}
    (h : o.isSome = decide (e = k)) : (if e = k then some (o.getD d) else none) = o := by
  by_cases he : e = k
  · rw [if_pos he]
    rw [decide_eq_true he] at h
    obtain ⟨v, rfl⟩ := Option.isSome_iff_exists.mp h
    rfl
  · rw [if_neg he]
    rw [decide_eq_false he] at h
    exact (Option.not_isSome_iff_eq_none.mp (by simp [h])).symm

theorem fitsSigned_zero : FitsSigned 0 := ⟨by decide, by decide⟩

theorem readStep_bytes {x : Step} (h : x.Sound) : readStep x.bytes = .ok x := by
  have hm := stepModeCode_lt x.mode
  have he := endKindCode_lt x.endKind
  have hfirst : byteAt x.bytes 0 = x.mode.code + 16 * x.endKind.code := toNat_ofNat_byte (by omega)
  have hmode : byteAt x.bytes 0 % 16 = x.mode.code := by omega
  have hkind : byteAt x.bytes 0 / 16 = x.endKind.code := by omega
  have hset : signedAt x.bytes 1 = x.setpoint := signed16_i16 h.setpoint
  have hmoist : byteAt x.bytes 3 = x.moisture := toNat_ofNat_byte h.moisture
  have hfan : byteAt x.bytes 4 = x.fan := toNat_ofNat_byte h.fan
  have hbias : byteAt x.bytes 5 = x.bias.code := toNat_ofNat_byte (biasCode_lt _)
  have hlimit : wordAt x.bytes 6 = x.limit := natOf_u16 h.limit
  have hcore : signedAt x.bytes 8 = x.coreTarget.getD 0 :=
    signed16_i16 (getD_of_mem fitsSigned_zero h.coreFits)
  have htarget : wordAt x.bytes 10 = x.huTarget.getD 0 :=
    natOf_u16 (getD_of_mem (by decide) h.targetFits)
  have hbase : signedAt x.bytes 12 = x.huBase.getD 0 :=
    signed16_i16 (getD_of_mem fitsSigned_zero h.baseFits)
  have hprompt : byteAt x.bytes 14 = x.prompt.code := toNat_ofNat_byte (promptCode_lt _)
  have hflag := setByte_testBit (fs := [x.preheat, x.doorCycle, x.coreTarget.isSome,
    x.huTarget.isSome, x.huBase.isSome]) (by simp)
  have hpreheat : bitAt x.bytes 15 0 = x.preheat := hflag 0
  have hdoor : bitAt x.bytes 15 1 = x.doorCycle := hflag 1
  have hcore' : bitAt x.bytes 15 2 = x.coreTarget.isSome := hflag 2
  have htarget' : bitAt x.bytes 15 3 = x.huTarget.isSome := hflag 3
  have hbase' : bitAt x.bytes 15 4 = x.huBase.isSome := hflag 4
  have hrest : ¬ (x.mode = .rest ∧ x.preheat = true) := fun ⟨h1, h2⟩ =>
    absurd (h.rest h1) (by simp [h2])
  have hlimited : ¬ (x.endKind ≠ .confirm ∧ x.limit = 0) := fun ⟨h1, h2⟩ => h.limited h1 h2
  have hpresent : ∀ {k : EndKind} {f : Bool}, f = decide (x.endKind = k) →
      ¬ (x.endKind = k ∧ f = false) := fun hf ⟨h1, h2⟩ => by simp [hf, h1] at h2
  unfold readStep
  rw [hmode, hkind, hprompt, hbias, stepModeOf_code, endKindOf_code, promptOf_code, biasOf_code]
  dsimp only
  rw [hpreheat, hlimit, hcore', htarget', hbase', if_neg hrest, if_neg hlimited,
    if_neg (hpresent h.core), if_neg (hpresent h.huTarget), if_neg (hpresent h.huBase), hset, hmoist,
    hfan, hcore, htarget, hbase, hdoor, optional_field h.core, optional_field h.huTarget,
    optional_field h.huBase]

theorem flatMap_bytes_length (xs : List Step) : (xs.flatMap Step.bytes).length = 16 * xs.length := by
  simp [List.length_flatMap, step_bytes_length, Nat.mul_comm]

theorem readSteps_flatMap (xs : List Step) (pre : Payload) (i : Nat) (hi : 1 ≤ i)
    (hpre : pre.length = 19 + 16 * (i - 1)) (h : ∀ x ∈ xs, x.Sound) :
    readSteps (pre ++ xs.flatMap Step.bytes) i xs.length = .ok xs := by
  induction xs generalizing pre i with
  | nil => rfl
  | cons x xs ih =>
    have hx : bytesAt (pre ++ (x :: xs).flatMap Step.bytes) (19 + 16 * (i - 1)) 16 = x.bytes :=
      bytesAt_append _ hpre (step_bytes_length x)
    have hrest := ih (pre ++ x.bytes) (i + 1) (by omega)
      (by rw [List.length_append, hpre, step_bytes_length]; omega)
      fun y hy => h y (List.mem_cons_of_mem _ hy)
    rw [List.append_assoc] at hrest
    rw [List.length_cons, readSteps, hx, readStep_bytes (h x List.mem_cons_self)]
    dsimp only
    rw [List.flatMap_cons, hrest]

/-! ### A recipe (R100, R107) -/

theorem nameField_eq {n : List Byte} (h : n.length ≤ 16) :
    nameField n = n ++ List.replicate (16 - n.length) 0#8 := by
  rw [nameField, List.take_append, List.take_of_length_le h, List.take_replicate,
    Nat.min_eq_left (Nat.sub_le _ _)]

theorem nameOf_nameField {n : List Byte} (h : n.length ≤ 16) (hp : n.all printable = true) :
    nameOf (nameField n) = n := by
  have hn : ∀ c ∈ n, decide (c ≠ 0#8) = true := fun c hc => by
    have hx := List.all_eq_true.mp hp c hc
    refine decide_eq_true fun e => ?_
    subst e
    exact absurd hx (by decide)
  have hz : (List.replicate (16 - n.length) 0#8).takeWhile (fun c => decide (c ≠ 0#8)) = [] := by
    rw [List.takeWhile_replicate]
    rfl
  rw [nameOf, nameField_eq h, List.takeWhile_append_of_pos hn, hz, List.append_nil]

theorem nameField_length {n : List Byte} (h : n.length ≤ 16) : (nameField n).length = 16 := by
  rw [nameField_eq h, List.length_append, List.length_replicate]
  omega

theorem readRecipe_recipeBytes (n : Fin 16) {r : Recipe} (h : r.Sound) :
    readRecipe (recipeBytes n.val r) = .sound r := by
  obtain ⟨⟨hname1, hname2⟩, hprinted, ⟨hcount1, hcount2⟩, hsteps⟩ := h
  have hfield := nameField_length hname2
  have hhead : (u8 n.val ++ nameField r.name).length = 17 := by
    rw [List.length_append, hfield]
    rfl
  have hshape : recipeBytes n.val r = (u8 n.val ++ nameField r.name) ++ (u8 r.steps.length ++
      (u8 r.keepLamp.toNat ++ r.steps.flatMap Step.bytes)) := by
    simp only [recipeBytes, List.append_assoc]
  have hcount : byteAt (recipeBytes n.val r) 17 = r.steps.length := by
    rw [hshape]
    exact (byteAt_append _ 0 hhead).trans (toNat_ofNat_byte (by omega))
  have hlamp : bitAt (recipeBytes n.val r) 18 0 = r.keepLamp := by
    have hb : byteAt (recipeBytes n.val r) 18 = r.keepLamp.toNat := by
      rw [hshape]
      exact (byteAt_append _ 1 hhead).trans
        (toNat_ofNat_byte (r.keepLamp.toNat_lt.trans (by decide)))
    rw [bitAt, hb]
    cases r.keepLamp <;> rfl
  have hname : bytesAt (recipeBytes n.val r) 1 16 = nameField r.name := by
    rw [hshape, List.append_assoc]
    exact bytesAt_append _ rfl hfield
  have hlen : (recipeBytes n.val r).length = 19 + 16 * r.steps.length := by
    simp only [hshape, List.length_append, flatMap_bytes_length, hfield, u8, List.length_cons,
      List.length_nil]
    omega
  have hread : readSteps (recipeBytes n.val r) 1 r.steps.length = .ok r.steps :=
    readSteps_flatMap r.steps _ 1 le_rfl (by simp [hfield, u8]) hsteps
  have hempty : ¬ ((nameOf (nameField r.name)).isEmpty ||
      !(nameOf (nameField r.name)).all printable) = true := by
    rw [nameOf_nameField hname2 hprinted, hprinted]
    simp [List.isEmpty_iff]
    rintro e
    simp [e] at hname1
  unfold readRecipe
  rw [hcount, hname, hlen, hlamp]
  dsimp only
  rw [if_neg (by omega), if_neg (not_not.mpr rfl), if_neg hempty, hread,
    nameOf_nameField hname2 hprinted]

/-- Settles O11. -/
theorem recipesAndSettingsSurviveTheLink : Obligations.RecipesAndSettingsSurviveTheLink := by
  unfold Obligations.RecipesAndSettingsSurviveTheLink
  exact ⟨fun n _ h => readRecipe_recipeBytes n h,
    fun _ _ h hlo hhi => settingsFields_settingsBytes h hlo hhi⟩

end Sys2Proof.Machine
end

section
/-! SUPPORT. The attention list and the writes of a start, in their order (R140, R174, R193). -/

namespace Sys2Proof.Machine

/-! ### The attention list at a start (R140, R193) -/

/-- An entry of a condition, where it holds at a start. -/
def startEntry (holds : Bool) (k : AttnKind) (d : Detail) (now : Option ClockTime) : List Entry :=
  if holds then [⟨k, .pending, now, d⟩] else []

/-- A list that nothing masks and nothing serves. -/
def openAttn (l : List Entry) : Attn := { Attn.empty with entries := l }

/-- A condition followed in start-up. -/
def Attn.followAtStart (a : Attn) (k : AttnKind) (d : Detail) (now : Option ClockTime)
    (holds : Bool) : Attn :=
  if holds then a.raise k d now true else a.remove k

theorem insertByCode_append {e : Entry} {l m : List Entry}
    (hl : ∀ x ∈ l, x.kind.code < e.kind.code) (hm : ∀ x ∈ m, e.kind.code < x.kind.code) :
    insertByCode e (l ++ m) = l ++ e :: m := by
  induction l with
  | nil =>
    cases m with
    | nil => rfl
    | cons x m => exact if_pos (hm x List.mem_cons_self)
  | cons x l ih =>
    have hx : ¬ e.kind.code < x.kind.code :=
      Nat.not_lt.mpr (Nat.le_of_lt (hl x List.mem_cons_self))
    rw [List.cons_append, insertByCode, if_neg hx,
      ih fun y hy => hl y (List.mem_cons_of_mem _ hy), List.cons_append]

/-- A condition followed in start-up stands at its place in the order of the codes. -/
theorem followAtStart_openAttn {k : AttnKind} {l m : List Entry} (d : Detail)
    (now : Option ClockTime) (holds : Bool) (hl : ∀ x ∈ l, x.kind.code < k.code)
    (hm : ∀ x ∈ m, k.code < x.kind.code) :
    (openAttn (l ++ m)).followAtStart k d now holds =
      openAttn (l ++ startEntry holds k d now ++ m) := by
  have hk : ∀ x ∈ l ++ m, x.kind ≠ k := fun x hx he => by
    rcases List.mem_append.mp hx with h | h
    · exact absurd (he ▸ hl x h) (lt_irrefl _)
    · exact absurd (he ▸ hm x h) (lt_irrefl _)
  cases holds with
  | false =>
    have hf : (l ++ m).filter (fun x => decide (x.kind ≠ k)) = l ++ m :=
      List.filter_eq_self.mpr fun x hx => decide_eq_true (hk x hx)
    simp only [Attn.followAtStart, Bool.false_eq_true, if_false, Attn.remove, openAttn, hf,
      startEntry, List.append_nil]
    rfl
  | true =>
    have hn : (openAttn (l ++ m)).has k = false := by
      rw [← Bool.not_eq_true, Attn.has_iff, List.mem_map]
      rintro ⟨x, hx, he⟩
      exact hk x hx he
    have hi := insertByCode_append (e := ⟨k, .pending, now, d⟩) hl hm
    unfold Attn.followAtStart Attn.raise
    rw [hn]
    simp only [if_true, Bool.false_eq_true, if_false, openAttn, hi, startEntry, List.append_assoc,
      List.singleton_append]

theorem startEntry_kind {holds : Bool} {k : AttnKind} {d : Detail} {now : Option ClockTime}
    {x : Entry} (h : x ∈ startEntry holds k d now) : x.kind = k := by
  cases holds with
  | false => cases h
  | true => rw [List.mem_singleton.mp h]

theorem followCondition_atStart (k : AttnKind) (holds : Bool) {b : Block}
    (h : b.life.settling.isSome = true) :
    followCondition k holds b = setAttn (b.attn.followAtStart k .none b.life.startClock holds) b := by
  cases holds with
  | false => rfl
  | true =>
    simp only [followCondition, if_true, raiseAttn, raiseTime, h, Attn.followAtStart]

/-- The attention list that a start builds before it looks at the checkpoint. -/
def startAttn (locked due valid : Bool) (now : Option ClockTime) : Attn :=
  openAttn (startEntry locked .steamLocked .none now ++ startEntry (!valid) .clockInvalid .none now ++
    startEntry due .descaleDue .none now)

theorem startAttn_eq (locked due valid : Bool) (now : Option ClockTime) :
    ((Attn.empty.followAtStart .steamLocked .none now locked).followAtStart .descaleDue .none now
      due).followAtStart .clockInvalid .none now (!valid) = startAttn locked due valid now := by
  have h1 := followAtStart_openAttn (l := []) (m := []) (k := .steamLocked) .none now locked
    (by simp) (by simp)
  have h2 := followAtStart_openAttn (l := startEntry locked .steamLocked .none now) (m := [])
    (k := .descaleDue) .none now due
    (fun x hx => by rw [startEntry_kind hx]; decide) (by simp)
  have h3 := followAtStart_openAttn (l := startEntry locked .steamLocked .none now)
    (m := startEntry due .descaleDue .none now) (k := .clockInvalid) .none now (!valid)
    (fun x hx => by rw [startEntry_kind hx]; decide)
    (fun x hx => by rw [startEntry_kind hx]; decide)
  simp only [List.append_nil, List.nil_append] at h1 h2
  rw [startAttn, ← h3, ← h2, ← h1]
  rfl

/-- The list with POWER_RESTORED raised before the others. -/
theorem startAttn_restored (locked due valid : Bool) (now : Option ClockTime) :
    (startAttn locked due valid now).raise .powerRestored .none now true =
      openAttn (startEntry true .powerRestored .none now ++ startEntry locked .steamLocked .none now ++
        startEntry (!valid) .clockInvalid .none now ++ startEntry due .descaleDue .none now) := by
  have h := followAtStart_openAttn (l := []) (k := .powerRestored)
    (m := startEntry locked .steamLocked .none now ++ startEntry (!valid) .clockInvalid .none now ++
      startEntry due .descaleDue .none now) .none now true (by simp) fun x hx => by
        rw [List.mem_append, List.mem_append] at hx
        rcases hx with (hx | hx) | hx <;> rw [startEntry_kind hx] <;> decide
  simp only [List.nil_append, ← List.append_assoc] at h
  exact h

/-- The list with RUN_ENDED raised at its place. -/
theorem startAttn_ended (locked due valid : Bool) (d : Detail) (now : Option ClockTime) :
    (startAttn locked due valid now).raise .runEnded d now true =
      openAttn (startEntry locked .steamLocked .none now ++ startEntry true .runEnded d now ++
        startEntry (!valid) .clockInvalid .none now ++ startEntry due .descaleDue .none now) := by
  have h := followAtStart_openAttn (l := startEntry locked .steamLocked .none now) (k := .runEnded)
    (m := startEntry (!valid) .clockInvalid .none now ++ startEntry due .descaleDue .none now) d now
    true (fun x hx => by rw [startEntry_kind hx]; decide) fun x hx => by
      rw [List.mem_append] at hx
      rcases hx with hx | hx <;> rw [startEntry_kind hx] <;> decide
  simp only [← List.append_assoc] at h
  exact h

/-! ### The writes of a start -/

theorem enqueue_new {w : Write} {q : List Write} (h : w.record ∉ q.map Write.record) :
    enqueue w q = q ++ [w] := by
  induction q with
  | nil => rfl
  | cons x q ih =>
    rw [List.map_cons, List.mem_cons, not_or] at h
    rw [enqueue, if_neg fun e => h.1 e.symm, ih h.2, List.cons_append]

/-- The pending writes of a start, before it looks at the checkpoint. -/
def startQueue (old new : Settings) (scale rescaled : ScaleRec) : List Write :=
  (if new = old then [] else [.settings new]) ++
    if scale.rw < old.kf then [] else [.scale rescaled]

theorem startQueue_records (old new : Settings) (scale rescaled : ScaleRec) :
    .checkpoint ∉ (startQueue old new scale rescaled).map Write.record := by
  unfold startQueue
  split_ifs <;> simp [Write.record]

end Sys2Proof.Machine
end

section
/-! SUPPORT. What a start builds from the retained records (R27, R61, R97, R177). -/

namespace Sys2Proof.Machine

/-! ### What a start builds before it looks at the checkpoint (R27, R61, R97, R177, R193) -/

/-- Settings with their budget clamped against the straps. -/
def Settings.atStart (m : MainsClass) (v : Settings) : Settings :=
  { v with budget := clampBudget m v.budget }

/-- An account with a remainder that the flow-meter constant no longer allows set to 0. -/
def ScaleRec.atStart (kf : Nat) (a : ScaleRec) : ScaleRec :=
  if a.rw < kf then a else { a with rw := 0 }

/-- The retained records with the writes of a start queued. -/
def Store.atStart (cause : StartCause) (m : MainsClass) (r : Store) : Store :=
  { r.afterStart cause with
    queue := startQueue r.settings (r.settings.atStart m) r.scale (r.scale.atStart r.settings.kf) }

/-- The steam lock that the retained records give. -/
def Store.locks (c : CavityClass) (r : Store) : Bool :=
  decide (lockThreshold c ≤ r.scale.scale) || r.descale.rinseOwed

/-- The descaling due by the retained account. -/
def Store.dues (c : CavityClass) (r : Store) : Bool :=
  decide (dueThreshold c ≤ r.scale.scale) && !decide (lockThreshold c ≤ r.scale.scale)

/-- The part that a start builds from the retained records, before it looks at the checkpoint. -/
def prepared (cause : StartCause) (v : Straps) (pins : StrapPins) (x : StartInputs) (r : Store)
    (b : Block) : Block :=
  { rebuild cause v pins x r b with
    settings := r.settings.atStart v.mains
    gen := { Generator.initial (r.scale.atStart r.settings.kf) with
      state := if r.descale.phase = .idle then .idle else .descale }
    climate := { Climate.initial with source := if r.descale.phase = .idle then .link else .run }
    store := r.atStart cause v.mains
    attn := startAttn (r.locks v.cavity) (r.dues v.cavity) (b.clock.atStart x.oscStopped).valid
      (b.clock.atStart x.oscStopped).now? }

theorem clampStartBudget_eq {b : Block} (h : b.store.queue = []) :
    clampStartBudget b = { b with
      settings := b.settings.atStart b.straps.mains
      store := { b.store with
        queue := if b.settings.atStart b.straps.mains = b.settings then []
          else [.settings (b.settings.atStart b.straps.mains)] } } := by
  have hiff : b.settings.atStart b.straps.mains = b.settings ↔
      clampBudget b.straps.mains b.settings.budget = b.settings.budget :=
    ⟨congrArg Settings.budget, fun e => by rw [Settings.atStart, e]⟩
  unfold clampStartBudget
  extract_lets n
  by_cases he : n = b.settings.budget
  · rw [if_pos he, if_pos (hiff.mpr he), hiff.mpr he, ← h]
  · rw [if_neg he, if_neg fun e => he (hiff.mp e)]
    unfold queueSettings queueWrite
    rw [setSettings_store, h]
    rfl

theorem clampStartRemainder_eq {b : Block} (h : .scale ∉ b.store.queue.map Write.record) :
    clampStartRemainder b = { b with
      gen := { b.gen with account := b.gen.account.atStart b.settings.kf }
      store := { b.store with
        queue := b.store.queue ++ if b.gen.account.rw < b.settings.kf then []
          else [.scale (b.gen.account.atStart b.settings.kf)] } } := by
  unfold clampStartRemainder ScaleRec.atStart
  split
  · rw [List.append_nil]
  · unfold queueScale queueWrite
    rw [setGen_store, enqueue_new h]
    rfl

theorem placeDescale_eq (b : Block) (hg : b.gen.state = .idle) (hc : b.climate.source = .link) :
    placeDescale b = { b with
      gen := { b.gen with state := if b.descale.kept.phase = .idle then .idle else .descale }
      climate := { b.climate with
        source := if b.descale.kept.phase = .idle then .link else .run } } := by
  unfold placeDescale descaling
  by_cases h : b.descale.kept.phase = .idle
  · rw [if_neg (by simp [h]), if_pos h, if_pos h, ← hg, ← hc]
  · rw [if_pos (decide_eq_true h), if_neg h, if_neg h]
    rfl

theorem startConditions_eq {b : Block} (h : b.life.settling.isSome = true)
    (ha : b.attn = .empty) :
    followCondition .clockInvalid (!b.clock.valid) (followScale b) =
      setAttn (startAttn (steamLock b) (scaleDue b) b.clock.valid b.life.startClock) b := by
  unfold followScale
  rw [followCondition_atStart .steamLocked _ h]
  rw [followCondition_atStart .descaleDue _ (by exact h)]
  rw [followCondition_atStart .clockInvalid _ (by exact h)]
  rw [← startAttn_eq, ha]
  rfl

theorem ScaleRec.atStart_scale (kf : Nat) (a : ScaleRec) : (a.atStart kf).scale = a.scale := by
  unfold ScaleRec.atStart
  split <;> rfl

/-- The clamps, the descale procedure's place and the conditions of a start make the prepared part. -/
theorem prepared_eq (cause : StartCause) (v : Straps) (pins : StrapPins) (x : StartInputs)
    {r : Store} (hq : r.queue = []) (b : Block) :
    followCondition .clockInvalid
      (!(placeDescale (clampStartRemainder (clampStartBudget
        (rebuild cause v pins x r b)))).clock.valid)
      (followScale (placeDescale (clampStartRemainder (clampStartBudget
        (rebuild cause v pins x r b))))) = prepared cause v pins x r b := by
  have hfree : .scale ∉ (if r.settings.atStart v.mains = r.settings then []
      else [Write.settings (r.settings.atStart v.mains)]).map Write.record := by
    split <;> simp [Write.record]
  have hscale := ScaleRec.atStart_scale r.settings.kf r.scale
  rw [clampStartBudget_eq (b := rebuild cause v pins x r b) hq,
    clampStartRemainder_eq (by exact hfree), placeDescale_eq _ rfl rfl, startConditions_eq rfl rfl]
  unfold prepared Store.locks Store.dues
  rw [← hscale]
  rfl

/-- A start: the prepared part, the checkpoint examined, the silence timer from 0. -/
theorem startUp_eq (cause : StartCause) (v : Straps) (pins : StrapPins) (x : StartInputs)
    (b : Block) :
    startUp cause v pins x b =
      restartSilence (examineCheckpoint
        (prepared cause v pins x (b.store.readAtStart v x.failed) b)) :=
  congrArg (fun c => restartSilence (examineCheckpoint c)) (prepared_eq cause v pins x rfl b)

end Sys2Proof.Machine
end

section
/-! SUPPORT. The checkpoint at a start (R119, R137). -/

namespace Sys2Proof.Machine

/-! ### The checkpoint at a start (R119, R137, R177) -/

/-- The write that the checkpoint of a start asks for: none where there is no checkpoint, its erasure
where its run ends, else the run's new one. -/
def checkpointWrite (b t : Block) : List Write :=
  b.store.checkpoint.elim [] fun _ =>
    [.checkpoint (if t.run.state = .idle then none else checkpointOf t)]

/-- The entry that the checkpoint of a start raises. -/
def checkpointAttn (b : Block) (st : RunState) : Attn :=
  if st = .running then b.attn.raise .powerRestored .none b.life.startClock true
  else b.store.checkpoint.elim b.attn fun k =>
    if st = .idle then b.attn.raise .runEnded (.runEnd .powerLoss k.runId) b.life.startClock true
    else b.attn

/-- What the look at the checkpoint makes of the prepared part. -/
structure Restored (b t : Block) : Prop where
  eq : t = { b with
    run := t.run, reports := t.reports, climate := t.climate, attn := t.attn, store := t.store }
  climate : t.climate = { b.climate with
    source := if t.run.state = .idle then b.climate.source else .run }
  store : t.store = { b.store with queue := b.store.queue ++ checkpointWrite b t }
  alone : b.store.checkpoint = none → t.run = b.run ∧ t.reports = b.reports
  attn : t.attn = checkpointAttn b t.run.state

theorem raiseAttn_atStart (k : AttnKind) (d : Detail) {b : Block}
    (h : b.life.settling.isSome = true) :
    raiseAttn k d b = setAttn (b.attn.raise k d b.life.startClock true) b := by
  simp only [raiseAttn, raiseTime, h, if_true]

section
variable {b : Block} (hs : b.life.settling.isSome = true)
  (hq : .checkpoint ∉ b.store.queue.map Write.record) {k : Checkpoint}
  (hk : b.store.checkpoint = some k)
include hs hq hk

theorem loseRun_restored (hrun : b.run.state = .idle) : Restored b (loseRun k b) := by
  have he : ∃ p, loseRun k b =
      queueWrite (.checkpoint none) (raiseAttn .runEnded (.runEnd .powerLoss k.runId)
        (setReports p b)) := by
    unfold loseRun
    by_cases hr : k.running = true
    · exact ⟨b.reports.push (lostReport k), by rw [if_pos hr]; rfl⟩
    · exact ⟨b.reports, by rw [if_neg hr]; rfl⟩
  obtain ⟨p, he⟩ := he
  rw [he, raiseAttn_atStart _ _ (by exact hs)]
  exact
    { eq := rfl
      climate := by
        rw [if_pos (by exact hrun)]
        rfl
      store := by
        rw [checkpointWrite, hk, Option.elim_some, if_pos (by exact hrun), ← enqueue_new hq]
        rfl
      alone := fun h => absurd (hk.symm.trans h) (by simp)
      attn := by
        change _ = checkpointAttn b b.run.state
        rw [checkpointAttn, hrun, hk]
        rfl }

omit hs in
/-- A run taken up at a start, with what is raised for it. -/
theorem takeSource_restored {a : Attn} {run : Run} (hr : run.state ≠ .idle)
    (ha : a = checkpointAttn b run.state) :
    Restored b (takeSource (queueCheckpoint (setAttn a (setRun run b)))) where
  eq := rfl
  climate := by
    rw [if_neg (by exact hr)]
    rfl
  store := by
    rw [checkpointWrite, hk, Option.elim_some, if_neg (by exact hr), ← enqueue_new hq]
    rfl
  alone h := absurd (hk.symm.trans h) (by simp)
  attn := ha

omit hs in
theorem restorePending_restored (r : Recipe) :
    Restored b (takeSource (restorePending k r b)) := by
  have ha : b.attn = checkpointAttn b .pending := by rw [checkpointAttn, hk]; rfl
  exact takeSource_restored hq hk (run := { restoredRun k r with
    state := .pending, startTime := k.startTime }) (by simp) ha

theorem restoreRunning_restored (r : Recipe) :
    Restored b (takeSource (restoreRunning k r b)) := by
  unfold restoreRunning
  extract_lets fresh _ _ _ b1
  rw [raiseAttn_atStart .powerRestored .none (b := b1) hs]
  exact takeSource_restored hq hk (run := b1.run) (by simp [b1]) rfl

end

theorem examineCheckpoint_restored {b : Block} (hs : b.life.settling.isSome = true)
    (hq : .checkpoint ∉ b.store.queue.map Write.record) (hrun : b.run.state = .idle) :
    Restored b (examineCheckpoint b) := by
  unfold examineCheckpoint
  split
  next hk =>
    exact
      { eq := rfl
        climate := by rw [if_pos hrun]
        store := by rw [checkpointWrite, hk, Option.elim_none, List.append_nil]
        alone := fun _ => ⟨rfl, rfl⟩
        attn := by rw [checkpointAttn, hrun, hk]; rfl }
  next k hk =>
    split
    · exact loseRun_restored hs hq hk hrun
    · exact restorePending_restored hq hk _
    · exact restoreRunning_restored hs hq hk _

end Sys2Proof.Machine
end

section
/-! SUPPORT. The state a start leaves, clause by clause. -/

namespace Sys2Proof.Machine

/-! ### The state a start leaves (R27, R61, R97, R177, R193) -/

/-- The attention list of a start, in the order of the codes. -/
theorem checkpointAttn_eq {b : Block} {locked due valid gone : Bool} {now : Option ClockTime}
    {c : Option Checkpoint} (ha : b.attn = startAttn locked due valid now)
    (hn : b.life.startClock = now) (hc : b.store.checkpoint = if gone then none else c)
    (st : RunState) :
    checkpointAttn b st =
      openAttn (startEntry (decide (st = .running)) .powerRestored .none now ++
        startEntry locked .steamLocked .none now ++
        startEntry (!gone && c.isSome && decide (st = .idle)) .runEnded
          (.runEnd .powerLoss (c.elim 0 Checkpoint.runId)) now ++
        startEntry (!valid) .clockInvalid .none now ++ startEntry due .descaleDue .none now) := by
  have hquiet : ∀ {p q : Bool} {d : Detail}, p = false → q = false →
      startAttn locked due valid now =
        openAttn (startEntry p .powerRestored .none now ++ startEntry locked .steamLocked .none now ++
          startEntry q .runEnded d now ++ startEntry (!valid) .clockInvalid .none now ++
          startEntry due .descaleDue .none now) := fun hp hq => by
    rw [hp, hq]
    simp [startAttn, startEntry]
  unfold checkpointAttn
  rw [ha, hn, hc]
  cases st with
  | running =>
    rw [if_pos rfl, startAttn_restored]
    simp [startEntry]
  | pending =>
    rw [if_neg (by decide)]
    refine Eq.trans ?_ (hquiet rfl (by simp))
    cases (if gone = true then none else c) <;> rfl
  | idle =>
    rw [if_neg (by decide)]
    cases gone with
    | true => exact hquiet rfl rfl
    | false =>
      cases c with
      | none => exact hquiet rfl rfl
      | some k =>
        refine (startAttn_ended locked due valid _ now).trans ?_
        simp [startEntry]

/-- The writes of the checkpoint, by what the start does with it. -/
theorem checkpointWrite_eq {b t : Block} {gone : Bool} {c : Option Checkpoint}
    (hc : b.store.checkpoint = if gone then none else c) :
    checkpointWrite b t =
      if gone = true ∨ c = none then []
      else [.checkpoint (if t.run.state = .idle then none else checkpointOf t)] := by
  unfold checkpointWrite
  rw [hc]
  cases gone with
  | true => rfl
  | false => cases c <;> rfl

theorem valid_atStart (stopped : Bool) (c : Clock) :
    (c.atStart stopped).valid = (c.valid && !stopped) := by
  cases stopped <;> simp [Clock.atStart]

theorem now_atStart (stopped : Bool) (c : Clock) :
    (c.atStart stopped).now? = if (c.valid && !stopped) = true then some c.time else none := by
  cases stopped <;> simp [Clock.atStart, Clock.now?]

theorem dues_eq (v : CavityClass) (r : Store) :
    r.dues v = decide (dueThreshold v ≤ r.scale.scale ∧ r.scale.scale < lockThreshold v) := by
  rw [Bool.eq_iff_iff]
  simp [Store.dues]

theorem prepared_restored (cause : StartCause) (v : Straps) (pins : StrapPins) (x : StartInputs)
    (r : Store) (b : Block) :
    Restored (prepared cause v pins x r b) (examineCheckpoint (prepared cause v pins x r b)) :=
  examineCheckpoint_restored rfl (startQueue_records _ _ _ _) rfl

theorem readAtStart_slots (v : Straps) (failed : List RecordName) (r : Store) (n : Fin 16) :
    (r.readAtStart v failed).slots.get n =
      if failed.contains (.slot n) then ⟨none, 0⟩ else r.slots.get n := by
  unfold Store.readAtStart
  exact Vector.get_ofFn _ _

end Sys2Proof.Machine
end

section
/-! SUPPORT. A start, said once for all its causes. -/

namespace Sys2Proof.Machine

/-- The part that a start leaves, by the retained records it takes. -/
structure StartedFrom (cause : StartCause) (v : Straps) (pins : StrapPins) (x : StartInputs)
    (r : Store) (b t : Block) : Prop where
  straps : t.straps = v
  pins : t.pins = pins
  life : t.life = .atStart (startRecord cause x r) (b.clock.atStart x.oscStopped).now?
  clock : t.clock = b.clock.atStart x.oscStopped
  settings : t.settings = r.settings.atStart v.mains
  gen : t.gen = { Generator.initial (r.scale.atStart r.settings.kf) with
    state := if r.descale.phase = .idle then .idle else .descale }
  store : t.store = { r.atStart cause v.mains with
    queue := startQueue r.settings t.settings r.scale t.gen.account ++
      if discards cause r = true ∨ r.checkpoint = none then []
      else [.checkpoint (if t.run.state = .idle then none else checkpointOf t)] }
  descale : t.descale = .initial r.descale
  runCounter : t.runCounter = r.checkpoint.elim 0 Checkpoint.runId
  alone : discards cause r = true ∨ r.checkpoint = none → t.run = .cleared ∧ t.reports = ⟨[], false⟩
  climate : t.climate = { Climate.initial with
    source :=
      if t.run.state = .idle then if r.descale.phase = .idle then .link else .run else .run }
  share : t.share = .initial
  fill : t.fill = .initial
  drain : t.drain = .initial
  sensors : t.sensors = .initial
  link : t.link = .initial
  switches : t.switches = b.switches.restart
  silence : t.silence = ⟨decide (r.descale.phase ≠ .idle ∨ t.run.state ≠ .idle), 0, false⟩
  attn : t.attn =
    openAttn (startEntry (decide (t.run.state = .running)) .powerRestored .none t.life.startClock ++
      startEntry (r.locks v.cavity) .steamLocked .none t.life.startClock ++
      startEntry (!discards cause r && r.checkpoint.isSome && decide (t.run.state = .idle)) .runEnded
        (.runEnd .powerLoss (r.checkpoint.elim 0 Checkpoint.runId)) t.life.startClock ++
      startEntry (!t.clock.valid) .clockInvalid .none t.life.startClock ++
      startEntry (r.dues v.cavity) .descaleDue .none t.life.startClock)

theorem startUp_startedFrom (cause : StartCause) (v : Straps) (pins : StrapPins) (x : StartInputs)
    (b : Block) :
    StartedFrom cause v pins x (b.store.readAtStart v x.failed) b (startUp cause v pins x b) := by
  rw [startUp_eq]
  generalize b.store.readAtStart v x.failed = r
  obtain ⟨heq, hclimate, hstore, halone, hattn⟩ := prepared_restored cause v pins x r b
  have hckpt : (prepared cause v pins x r b).store.checkpoint =
      if discards cause r then none else r.checkpoint := rfl
  rw [checkpointWrite_eq hckpt] at hstore
  rw [checkpointAttn_eq rfl rfl hckpt] at hattn
  have hnone : discards cause r = true ∨ r.checkpoint = none →
      (prepared cause v pins x r b).store.checkpoint = none := fun h => by
    rw [hckpt]
    rcases h with h | h
    · rw [if_pos h]
    · rw [h, ite_self]
  generalize examineCheckpoint (prepared cause v pins x r b) = t at *
  have hsettings : t.settings = r.settings.atStart v.mains := (congrArg Block.settings heq :)
  have hgen : t.gen = (prepared cause v pins x r b).gen := (congrArg Block.gen heq :)
  have hlife : t.life = (prepared cause v pins x r b).life := (congrArg Block.life heq :)
  have hclock : t.clock = (prepared cause v pins x r b).clock := (congrArg Block.clock heq :)
  have hkept : t.descale = .initial r.descale := (congrArg Block.descale heq :)
  have hcold : t.climate.state = .off := (congrArg Climate.state hclimate :)
  have hsilent : silenceCondition t =
      decide (r.descale.phase ≠ .idle ∨ t.run.state ≠ .idle) := by
    have hphase : t.descale.kept.phase = r.descale.phase := by rw [hkept]; rfl
    rw [silenceCondition, hcold, hphase, Bool.eq_iff_iff]
    simp [or_comm]
  exact
    { straps := (congrArg Block.straps heq :)
      pins := (congrArg Block.pins heq :)
      life := hlife
      clock := hclock
      settings := hsettings
      gen := hgen
      store := by
        refine Eq.trans hstore ?_
        rw [restartSilence_settings, hsettings, restartSilence_gen, hgen]
        rfl
      descale := hkept
      runCounter := (congrArg Block.runCounter heq :)
      alone := fun h => halone (hnone h)
      climate := hclimate
      share := (congrArg Block.share heq :)
      fill := (congrArg Block.fill heq :)
      drain := (congrArg Block.drain heq :)
      sensors := (congrArg Block.sensors heq :)
      link := (congrArg Block.link heq :)
      switches := (congrArg Block.switches heq :)
      silence := congrArg (fun c => (⟨c, 0, false⟩ : Silence)) hsilent
      attn := by
        rw [restartSilence_run, restartSilence_life, restartSilence_clock, hlife, hclock]
        exact hattn }

end Sys2Proof.Machine
end

section
/-! SUPPORT. The five ways to a start, and the assertion of the RESET line (R155, R165, R169, R173, R179, R181). -/

namespace Sys2Proof.Machine

/-! ### The ways to a start (R155, R165, R169, R173, R175, R179, R181) -/

theorem supplyUp_flushing (x : ColdInputs) {b : Block}
    (hf : b.life.flush = .mains ∨ b.life.flush = .resetLine) (hn : b.life.note ≠ .written) :
    supplyUp x b = b := by
  have hw : b.life.flush.writesNote = true := by rcases hf with e | e <;> rw [e] <;> rfl
  exact if_pos (by simp [flushing, hw, hn])

theorem supplyUp_ready (x : ColdInputs) {b : Block}
    (h : b.life.flush = .none ∨ b.life.flush = .restart ∨ b.life.note = .written) :
    supplyUp x b = coldStartOrWait x b := by
  refine if_neg ?_
  rcases h with e | e | e <;> simp [flushing, e, Flush.writesNote]

theorem coldStartOrWait_free (x : ColdInputs) {b : Block} (h : b.life.resetLine = false) :
    coldStartOrWait x b = coldStart x b := if_neg (ne_true_of_eq_false h)

theorem coldStartOrWait_held (x : ColdInputs) {b : Block} (h : b.life.resetLine = true) :
    coldStartOrWait x b = setLife { b.life with coldDue := some x } b := if_pos h

theorem zeroCrossing_lost {b : Block} (hm : b.life.mainsLost = true) :
    zeroCrossing b = if b.life.note = .written then crossingStart b else b := if_pos hm

theorem crossingStart_free {b : Block} (h : b.life.resetLine = false) :
    crossingStart b = coldStart (crossingInputs b) b := by
  have hn : ¬ (b.life.resetLine = true ∧ b.life.coldDue.isSome = true) := fun hb =>
    absurd (hb.1.symm.trans h) (by decide)
  exact (if_neg hn).trans (coldStartOrWait_free _ h)

theorem crossingStart_held {b : Block} (h : b.life.resetLine = true) :
    crossingStart b = setLife
      { b.life with coldDue := some (b.life.coldDue.getD (crossingInputs b)) } b := by
  unfold crossingStart
  cases hc : b.life.coldDue with
  | none => exact (if_neg (by simp)).trans (coldStartOrWait_held _ h)
  | some c =>
    rw [if_pos ⟨h, rfl⟩, Option.getD_some, ← hc]
    rfl

theorem restartStart_flushed (x : StartInputs) {b : Block} (hf : b.life.flush = .restart)
    (hi : b.store.inFlight = none) (hq : b.store.queue = []) (hm : b.life.mainsLost = false)
    (hr : b.life.resetLine = false) : restartStart x b = warmStart .restartRequest x b :=
  if_pos (by simp [restartFlushed, hf, hi, hq, hm, hr])

theorem releaseReset_free (x : StartInputs) {b : Block} (h : b.life.resetLine = false) :
    releaseReset x b = b := if_pos (by simp [h])

theorem releaseReset_cold (x : StartInputs) {c : ColdInputs} {b : Block}
    (h : b.life.resetLine = true) (hc : b.life.coldDue = some c) :
    releaseReset x b = coldStart c (setLife { b.life with resetLine := false } b) := by
  unfold releaseReset
  rw [if_neg (by simp [h])]
  dsimp only [setLife_life]
  rw [hc]

theorem releaseReset_none (x : StartInputs) {b : Block} (h : b.life.resetLine = true)
    (hc : b.life.coldDue = none) :
    releaseReset x b =
      if b.life.mainsLost then setLife { b.life with resetLine := false } b
      else if b.life.note = .written then
        warmStart .resetLine x (setLife { b.life with resetLine := false } b)
      else setLife { b.life with resetLine := false, releaseDue := some x } b := by
  unfold releaseReset
  rw [if_neg (by simp [h])]
  dsimp only [setLife_life]
  rw [hc]
  rfl

theorem assertReset_again {b : Block} (h : b.life.resetLine = true) : assertReset b = b := if_pos h

/-- A start looks at nothing of the life record that it replaces. -/
theorem startUp_setLife (cause : StartCause) (v : Straps) (pins : StrapPins) (x : StartInputs)
    (l : Life) (b : Block) :
    startUp cause v pins x (setLife l b) = startUp cause v pins x b := by
  unfold startUp rebuild
  rfl

theorem onBlock_eq {f : Block → Block} {b : Block} {s : State} (h : f s.toBlock = b) :
    onBlock f s = .next (s.withBlock b) :=
  congrArg (fun c => Host.Outcome.next (s.withBlock c)) h

/-- An assertion of the RESET line on a part at work. -/
theorem resetLineAssert_begins {s : State} (hs : live s.toBlock = true) :
    ∃ t, exec .resetLineAssert s = .next t ∧ t.life.resetLine = true ∧
      t.life.flush = .resetLine ∧ t.life.noteMark = true ∧
      (∀ l, (t.share.loads.get l).locks.mainsLoss = true) ∧ t.fill.inFlight = false ∧
      t.drain.inFlight = false ∧ t.link.owed = none ∧
      t.descale.kept = s.descale.kept ∧ t.gen.state = s.gen.state ∧
      t = { s with
        life := t.life, share := t.share, gen := t.gen, fill := t.fill, drain := t.drain
        descale := t.descale, attn := t.attn, store := t.store, link := t.link } := by
  obtain ⟨hout, hheld, hended, hgen, hkept, -⟩ := shutDown_switchedOff .interlock s.toBlock
  have hx := assertReset_live hs
  generalize shutDown .interlock s.toBlock = b at hout hheld hended hgen hkept hx
  obtain ⟨hshare, -, hgen', hfill, hdrain, hdescale, hlink⟩ :=
    serveStore_rest (setLife (stopLink b).life.reset (stopLink b))
  have hlife := serveStore_life (setLife (stopLink b).life.reset (stopLink b))
  have hframe := reset_frame _ hout hx
  rw [← hx] at hshare hgen' hfill hdrain hdescale hlink hlife
  refine ⟨s.withBlock (assertReset s.toBlock), rfl, ?_, ?_, ?_, ?_, ?_, ?_, ?_, ?_, ?_,
    congrArg s.withBlock hframe⟩
  · exact (congrArg Life.resetLine hlife :)
  · exact (congrArg Life.flush hlife :)
  · exact (congrArg Life.noteMark hlife :)
  · change ∀ l, ((assertReset s.toBlock).share.loads.get l).locks.mainsLoss = true
    rw [hshare]
    exact hheld
  · exact (congrArg ChannelRec.inFlight hfill).trans hended.1
  · exact (congrArg ChannelRec.inFlight hdrain).trans hended.2
  · exact congrArg Link.owed hlink
  · exact (congrArg Descale.kept hdescale).trans hkept
  · exact (congrArg Generator.state hgen').trans hgen

/-- Settles O59: every way to a start ends in `startUp`; the assertion ends in a flush. -/
theorem startsRebuildThePart : Obligations.StartsRebuildThePart := by
  unfold Obligations.StartsRebuildThePart
  intro started
  have hstart : ∀ (cause : StartCause) (v : Straps) (pins : StrapPins) (x : StartInputs)
      (s t : State), StartedFrom cause v pins x (s.store.readAtStart v x.failed) s.toBlock t.toBlock →
      t.straps = v ∧ t.pins = pins ∧ started cause x s t := fun cause v pins x s t h => by
    obtain rfl := h.straps
    refine ⟨rfl, h.pins, ?_⟩
    unfold started
    intro k v a c note discarded valid now locked due entry input
    have hlife : t.life = .atStart _ now := h.life.trans (congrArg _ (now_atStart _ _))
    have hvalid : t.clock.valid = valid := by rw [h.clock]; exact valid_atStart _ _
    have hnow : t.life.startClock = now := by rw [hlife]; rfl
    have hlocked : (s.store.readAtStart t.straps x.failed).locks t.straps.cavity = locked :=
      Bool.or_comm _ _
    have hdue : (s.store.readAtStart t.straps x.failed).dues t.straps.cavity = due := dues_eq _ _
    have hclimate := h.climate
    have hattn := h.attn
    rw [hnow, hvalid, hlocked, hdue] at hattn
    refine ⟨hlife, h.clock, h.settings, h.gen, ?_, ?_, ?_, fun n => ?_, ?_, ?_, ?_, ?_, h.descale,
      h.runCounter, h.alone, fun hp => ?_, fun hp hr => ?_, ?_, h.share, h.fill, h.drain, h.sensors,
      h.link, h.switches, h.silence, hattn⟩
    · exact (congrArg Store.settings h.store :)
    · exact (congrArg Store.scale h.store :)
    · exact (congrArg Store.descale h.store :)
    · exact (congrArg (fun r : Store => r.slots.get n) h.store :).trans
        (readAtStart_slots t.straps x.failed s.store n)
    · exact (congrArg Store.checkpoint h.store :)
    · exact (congrArg Store.note h.store :)
    · exact (congrArg Store.inFlight h.store :)
    · exact (congrArg Store.queue h.store :)
    · rw [hclimate]
      change (if t.run.state = .idle then if k.phase = .idle then _ else _ else _) = Source.run
      rw [if_neg hp, ite_self]
    · rw [hclimate]
      change (if t.run.state = .idle then if k.phase = .idle then _ else _ else _) = Source.link
      rw [if_pos hr, if_pos hp]
    · rw [hclimate]
  have hgo : ∀ {f : Block → Block} {cause : StartCause} {v : Straps} {pins : StrapPins}
      {x : StartInputs} {s : State}, f s.toBlock = startUp cause v pins x s.toBlock →
      ∃ t, onBlock f s = .next t ∧ t.straps = v ∧ t.pins = pins ∧ started cause x s t :=
    fun {f cause v pins x s} h =>
      ⟨s.withBlock (startUp cause v pins x s.toBlock), onBlock_eq h,
        hstart cause v pins x s _ (startUp_startedFrom cause v pins x s.toBlock)⟩
  refine ⟨fun x s => ⟨fun hf hn => onBlock_eq (supplyUp_flushing x hf hn), fun hr => ⟨fun hl => ?_,
      fun hl => ?_⟩⟩, fun s hm hn hl => ?_, fun s hm => ⟨fun hn => ?_, fun hn hl => ?_⟩,
    fun x s hf hi hq hm hl => hgo (restartStart_flushed x hf hi hq hm hl),
    fun x s hl => onBlock_eq (releaseReset_free x hl), fun x c s hl hc => ?_,
    fun x s hl hc => ⟨fun hm => ?_, fun hm hn => ?_, fun hm hn => ?_⟩,
    fun s hl => onBlock_eq (assertReset_again hl), fun s hs => ?_⟩
  · exact hgo ((supplyUp_ready x hr).trans (coldStartOrWait_free x hl))
  · exact onBlock_eq ((supplyUp_ready x hr).trans (coldStartOrWait_held x hl))
  · exact hgo ((zeroCrossing_lost hm).trans ((if_pos hn).trans (crossingStart_free hl)))
  · exact onBlock_eq ((zeroCrossing_lost hm).trans (if_neg hn))
  · exact onBlock_eq ((zeroCrossing_lost hm).trans ((if_pos hn).trans (crossingStart_held hl)))
  · exact hgo ((releaseReset_cold x hl hc).trans (startUp_setLife _ _ _ _ _ _))
  · exact onBlock_eq ((releaseReset_none x hl hc).trans (if_pos hm))
  · exact hgo ((releaseReset_none x hl hc).trans ((if_neg (ne_true_of_eq_false hm)).trans
      ((if_pos hn).trans (startUp_setLife _ _ _ _ _ _))))
  · exact onBlock_eq ((releaseReset_none x hl hc).trans ((if_neg (ne_true_of_eq_false hm)).trans
      (if_neg hn)))
  · exact resetLineAssert_begins hs

end Sys2Proof.Machine
end

section
/-! SUPPORT. What the climate's and the runner's own work can do, said once (chapters 1 and 7). -/

namespace Sys2Proof.Machine

/-- A property that the own work of the climate and the runner keeps: they reach the climate, the run,
the reports and the attention list, queue a CHECKPOINT write, write request rows, hand the generator a
demand, and set or clear steam-wanted, on which the generator acts. -/
structure CookWork (P : Block → Prop) : Prop where
  climate : ∀ (c : Climate) {b : Block}, P b → P (setClimate c b)
  run : ∀ (r : Run) {b : Block}, P b → P (setRun r b)
  attn : ∀ (a : Attn) {b : Block}, P b → P (setAttn a b)
  reports : ∀ (q : Reports) {b : Block}, P b → P (setReports q b)
  checkpoint : ∀ (k : Option Checkpoint) {b : Block}, P b → P (queueWrite (.checkpoint k) b)
  rows : ∀ (r : PerLoad Row) {b : Block}, P b → P (setShare { b.share with requests := r } b)
  demand : ∀ (d p : Nat) {b : Block}, P b → P (setGen { b.gen with demand := d, prio := p } b)
  wanted : ∀ {b : Block}, P b → P (steamWantedSet b)
  unwanted : ∀ {b : Block}, P b → P (steamWantedCleared b)

namespace CookWork

variable {P : Block → Prop} (hP : CookWork P)
include hP

/-! ### The attention list and the request rows -/

theorem raised (k : AttnKind) (d : Detail) {b : Block} (hb : P b) : P (raiseAttn k d b) :=
  hP.attn _ hb

theorem cleared (k : AttnKind) {b : Block} (hb : P b) : P (clearAttn k b) := hP.attn _ hb

theorem followCondition (k : AttnKind) (v : Bool) {b : Block} (hb : P b) :
    P (followCondition k v b) :=
  Closed.ite (hP.raised _ _ hb) (hP.cleared _ hb)

theorem genRow (w p : Nat) {b : Block} (hb : P b) : P (writeGenRow w p b) := hP.rows _ hb

theorem refreshGenRow {b : Block} (hb : P b) : P (refreshGenRow b) := by
  unfold Machine.refreshGenRow
  split <;> exact hP.genRow _ _ hb

theorem handOver (d : Nat) (p : Option Nat) {b : Block} (hb : P b) : P (handOver d p b) := by
  have hd := hP.demand d (p.getD b.gen.prio) hb
  unfold Machine.handOver
  extract_lets c
  split
  · exact hP.refreshGenRow hd
  · exact hP.refreshGenRow hd
  · exact hd

/-! ### The climate (R3 to R22) -/

theorem commandModeFlap {b : Block} (hb : P b) : P (commandModeFlap b) := by
  unfold Machine.commandModeFlap
  split
  case h_2 => exact hb
  all_goals exact hP.climate _ hb

theorem zeroDemand {b : Block} (hb : P b) : P (zeroDemand b) := hP.handOver _ _ (hP.rows _ hb)

theorem putReasons (r : Reasons) {b : Block} (hb : P b) : P (putReasons r b) := by
  have hr := hP.climate { b.climate with reasons := r } hb
  unfold Machine.putReasons
  extract_lets c
  split
  · exact Closed.ite (hP.zeroDemand (hP.climate _ hr)) hr
  · exact Closed.ite hr (hP.commandModeFlap (hP.climate _ hr))
  all_goals exact hr

theorem putSteamWanted (v : Bool) {b : Block} (hb : P b) : P (putSteamWanted v b) := by
  have hc := hP.climate { b.climate with steamWanted := v } hb
  exact Closed.ite hb (Closed.ite (hP.wanted hc) (hP.unwanted hc))

theorem leaveOff {b : Block} (hb : P b) : P (leaveOff b) :=
  hP.putSteamWanted _ (Closed.ite (hP.commandModeFlap (hP.climate _ hb)) (hP.climate _ hb))

theorem enterOff {b : Block} (hb : P b) : P (enterOff b) :=
  Closed.ite hb (hP.putSteamWanted _ (hP.climate _ (hP.zeroDemand hb)))

theorem enterFault {b : Block} (hb : P b) : P (enterFault b) :=
  hP.putSteamWanted _ (hP.climate _ (hP.zeroDemand hb))

theorem changeMode (x : ClimateSetting) {b : Block} (hb : P b) : P (changeMode x b) := by
  have hc := hP.climate { (Machine.zeroDemand b).climate.store x with
    integral := 0, openLoop := false } (hP.zeroDemand hb)
  exact hP.putSteamWanted _ (Closed.ite (hP.commandModeFlap hc) hc)

theorem applySetting (x : ClimateSetting) {b : Block} (hb : P b) : P (applySetting x b) := by
  unfold Machine.applySetting
  split
  · exact hP.leaveOff (hP.climate _ hb)
  · exact Closed.ite (hP.changeMode x hb) (hP.climate _ hb)
  · exact Closed.ite (hP.changeMode x hb) (hP.climate _ hb)
  · exact hb

theorem stepWrite (x : Step) {b : Block} (hb : P b) : P (stepWrite x b) := by
  unfold Machine.stepWrite
  split
  · exact hP.enterOff hb
  · exact hP.applySetting _ hb

theorem commandMoistureFlap (mm : Option Int) {b : Block} (hb : P b) :
    P (commandMoistureFlap mm b) := by
  unfold Machine.commandMoistureFlap
  refine Closed.ite hb ?_
  split
  · exact hP.climate _ hb
  · exact Closed.ite (hP.climate _ hb) (Closed.ite (hP.climate _ hb) hb)

theorem controlPeriod (tm : Int) {b : Block} (hb : P b) : P (controlPeriod tm b) :=
  hP.commandMoistureFlap _ (hP.handOver _ _ (hP.rows _ (hP.climate _ hb)))

/-! ### Holds, phases and step starts (R118 to R125) -/

theorem putHold (h : HoldSet) {b : Block} (hb : P b) : P (putHold h b) := by
  have hr := hP.run { b.run with hold := h } hb
  exact Closed.ite (Closed.ite hr (hP.putReasons _ hr)) (Closed.ite (hP.putReasons _ hr) hr)

theorem enterPrompt (x : Step) {b : Block} (hb : P b) : P (enterPrompt x b) :=
  hP.raised _ _ (hP.run _ (hP.run _ hb))

theorem enterActive (x : Step) {b : Block} (hb : P b) : P (enterActive x b) := by
  have hr := hP.run { b.run with phase := some .active } hb
  exact hP.checkpoint _ (Closed.ite (hP.raised _ _ hr) hr)

theorem enterAfterPreheat (x : Step) {b : Block} (hb : P b) : P (enterAfterPreheat x b) :=
  Closed.ite (hP.enterPrompt x hb) (hP.enterActive x hb)

theorem resetStep (first : Bool) {b : Block} (hb : P b) : P (resetStep first b) := by
  have hr := hP.cleared .probeNeeded (hP.run { b.run with
    step := .initial, hold := { b.run.hold with steam := false, probe := false } } hb)
  exact Closed.ite (hP.run _ hr) hr

theorem writeStep (x : Step) {b : Block} (hb : P b) : P (writeStep x b) :=
  Closed.ite hb (hP.stepWrite x (Closed.ite (hP.putReasons _ hb) hb))

theorem startStep (first : Bool) {b : Block} (hb : P b) : P (startStep first b) := by
  unfold Machine.startStep
  split
  · exact hb
  next x _ =>
    extract_lets c skipped _ d
    have hd : P d := hP.run _ (hP.writeStep x (hP.resetStep first hb))
    exact hP.checkpoint _ (Closed.ite (hP.run _ hd) (hP.enterAfterPreheat x hd))

theorem restoreStep (phase : StepPhase) (active heat : Nat) {b : Block} (hb : P b) :
    P (restoreStep phase active heat b) := by
  unfold Machine.restoreStep
  split
  · exact hb
  next x _ =>
    have hw := hP.writeStep x (hP.resetStep true hb)
    refine hP.checkpoint _ ?_
    cases phase
    · exact hP.run _ hw
    · exact hP.enterPrompt x hw
    · exact hP.enterActive x (hP.run _ hw)

theorem beginRun (delayed : Bool) {b : Block} (hb : P b) : P (beginRun delayed b) :=
  hP.startStep _ (hP.run _ hb)

/-! ### Step ends and run ends (R124, R132) -/

theorem withdrawStep {b : Block} (hb : P b) : P (withdrawStep b) :=
  hP.cleared _ (hP.cleared _ (hP.cleared _ hb))

theorem closeStep (reason : StepEnd) {b : Block} (hb : P b) : P (closeStep reason b) :=
  hP.reports _ (hP.withdrawStep hb)

theorem releaseClimate {b : Block} (hb : P b) : P (releaseClimate b) :=
  hP.climate _ (hP.putReasons _ (Closed.ite hb (hP.enterOff hb)))

theorem endRun (reason : RunEnd) {b : Block} (hb : P b) : P (endRun reason b) := by
  unfold Machine.endRun
  refine Closed.ite hb ?_
  extract_lets _ c d e
  have hd : P d := hP.cleared _ (hP.withdrawStep (Closed.ite (hP.closeStep _ hb) hb))
  have he : P e := Closed.ite (hP.climate _ hd) hd
  exact hP.releaseClimate (hP.run _ (hP.checkpoint _ (hP.raised _ _ he)))

theorem endStep (reason : StepEnd) {b : Block} (hb : P b) : P (endStep reason b) := by
  have hc := hP.closeStep reason hb
  exact Closed.ite (hP.startStep _ (hP.run _ hc)) (hP.endRun _ hc)

/-! ### The step timer (R119 to R128) -/

theorem steamHold (x : Step) {b : Block} (hb : P b) : P (steamHold x b) :=
  Closed.ite (hP.run _ hb) hb

theorem probeHold (x : Step) {b : Block} (hb : P b) : P (probeHold x b) := by
  unfold Machine.probeHold
  refine Closed.ite ?_ hb
  split
  · exact Closed.ite (hP.raised _ _ (hP.run _ (hP.run _ hb))) (hP.run _ hb)
  · exact Closed.ite (hP.cleared _ (hP.run _ (hP.run _ hb))) (hP.run _ hb)

theorem preheatSecond (x : Step) {b : Block} (hb : P b) : P (preheatSecond x b) := by
  unfold Machine.preheatSecond
  extract_lets n _ c
  have hc : P c := hP.run _ hb
  exact Closed.ite (hP.enterAfterPreheat x hc)
    (Closed.ite (hP.enterAfterPreheat x (hP.run _ hc)) hc)

theorem activeSecond (x : Step) {b : Block} (hb : P b) : P (activeSecond x b) := by
  unfold Machine.activeSecond
  extract_lets c
  have hc : P c := hP.run _ hb
  split
  · exact hP.endStep _ hc
  · exact Closed.ite (hP.checkpoint _ hc) hc

theorem phaseSecond (x : Step) {b : Block} (hb : P b) : P (phaseSecond x b) := by
  unfold Machine.phaseSecond
  split
  · exact hP.preheatSecond x hb
  · exact hP.activeSecond x hb
  all_goals exact hb

theorem stepSecond {b : Block} (hb : P b) : P (stepSecond b) := by
  unfold Machine.stepSecond
  split
  · exact hb
  next x _ =>
    extract_lets c d
    have hx := hP.probeHold x (hP.steamHold x hb)
    have hc : P c := Closed.ite (hP.run _ hx) hx
    have hd : P d := Closed.ite (hP.run _ hc) hc
    exact Closed.ite (hP.endRun _ hc) (Closed.ite (hP.run _ hd) (hP.phaseSecond x hd))

/-! ### The runner's and the climate's part of events and requests -/

theorem runDoorOpened {b : Block} (hb : P b) : P (runDoorOpened b) :=
  Closed.ite (hP.putHold _ (hP.run _ hb)) hb

theorem runDoorClosed {b : Block} (hb : P b) : P (runDoorClosed b) :=
  Closed.ite (hP.putHold _ (hP.run _ hb)) hb

theorem promptClosed {b : Block} (hb : P b) : P (promptClosed b) := by
  unfold Machine.promptClosed
  split
  · exact Closed.ite (hP.enterActive _ hb) hb
  · exact hb

theorem checkClosed {b : Block} (hb : P b) : P (checkClosed b) := Closed.ite (hP.endStep _ hb) hb

theorem endSilent {b : Block} (hb : P b) : P (endSilent b) := by
  have hh : P (if b.run.hold.silent then putHoldSilent false b else b) :=
    Closed.ite (hP.putHold _ hb) hb
  exact Closed.ite (hP.putReasons _ hh) hh

theorem runSensor (v : Bool) {b : Block} (hb : P b) : P (runSensor v b) :=
  Closed.ite (hP.putHold _ (hP.run _ hb)) hb

theorem addSilent {b : Block} (hb : P b) : P (addSilent b) :=
  Closed.ite (hP.putHold _ hb) (Closed.ite (hP.putReasons _ hb) hb)

theorem giveUp {b : Block} (hb : P b) : P (giveUp b) :=
  Closed.ite (hP.endRun _ hb) (Closed.ite (hP.enterOff hb) hb)

theorem stepExpiry {b : Block} (hb : P b) : P (stepExpiry b) := Closed.ite (hP.stepSecond hb) hb

theorem controlExpiry {b : Block} (hb : P b) : P (controlExpiry b) := by
  unfold Machine.controlExpiry
  refine Closed.ite ?_ hb
  split
  · exact hP.controlPeriod _ hb
  · exact hb

theorem takeReasons {b : Block} (hb : P b) : P (takeReasons b) :=
  hP.putReasons _ (hP.putReasons _ hb)

theorem resumeRunStep {b : Block} (hb : P b) : P (resumeRunStep b) := by
  unfold Machine.resumeRunStep
  split
  · exact hP.startStep _ (hP.run _ hb)
  · exact hP.restoreStep _ _ _ (hP.run _ hb)
  · exact hb

theorem takeRunStart (n : Fin 16) (r : Recipe) (f : StartFields) (hc : ∀ n {b : Block}, P b →
    P (setRunCounter n b)) {b : Block} (hb : P b) : P (takeRunStart n r f b) := by
  unfold Machine.takeRunStart
  extract_lets id t later c d _ e
  have he : P e := hP.climate _ (hP.run _ (hc _ hb))
  exact Closed.ite (hP.checkpoint _ (hP.run _ he)) (hP.beginRun _ he)

end CookWork
end Sys2Proof.Machine
end

section
/-! SUPPORT. What the steam lock rests on, and the states it admits (R57, R61, R62, R82). -/

namespace Sys2Proof.Machine

/-! ### The steam view of a block -/

/-- The descale record a write carries. -/
def Write.descaleRec? : Write → Option DescaleRec
  | .descale k => some k
  | _ => none

/-- What the steam lock and its invariant rest on: the generator's state and its mark for DESCALE, the
lock by scale, the descale record, the retained one, and those that wait to be written. -/
structure Steam where
  state : GenState
  take : Bool
  scaled : Bool
  kept : DescaleRec
  retained : DescaleRec
  writes : List DescaleRec

/-- The steam view of a block. -/
def Block.steam (b : Block) : Steam :=
  { state := b.gen.state
    take := b.gen.descaleTake
    scaled := lockByScale b
    kept := b.descale.kept
    retained := b.store.descale
    writes := (b.store.inFlight.toList ++ b.store.queue).filterMap Write.descaleRec? }

/-- The retained descale record and those to be written are sound. -/
structure Steam.StoreSound (x : Steam) : Prop where
  retained : x.retained.Sound
  writes : ∀ k ∈ x.writes, k.Sound

/-- A procedure has the generator: it is in DESCALE or FAULT, or DRAINING with the take marked. -/
def Steam.Has (x : Steam) : Prop :=
  x.state = .descale ∨ x.state = .fault ∨ (x.state = .draining ∧ x.take = true)

/-- The generator serves: it is HEATING or READY. -/
def Steam.Serves (x : Steam) : Prop := x.state = .heating ∨ x.state = .ready

/-- The steam lock. -/
def Steam.locked (x : Steam) : Bool := x.scaled || x.kept.rinseOwed

/-- The invariant of a part at work: under the lock the generator does not serve, and a procedure in
progress has it. -/
structure Steam.Held (x : Steam) : Prop extends x.StoreSound where
  record : x.kept.Sound
  cold : x.locked = true → ¬ x.Serves
  taken : x.kept.phase ≠ .idle → x.Has

/-- A part whose procedure is in progress and has the generator. -/
structure Steam.Taken (x : Steam) : Prop extends x.StoreSound where
  phase : x.kept.phase ≠ .idle
  has : x.Has

/-- A part with no procedure in progress, whose generator may serve or not. -/
structure Steam.Free (x : Steam) : Prop extends x.StoreSound where
  kept : x.kept = .initial

/-! ### Between the three conditions -/

theorem Steam.Has.not_serves {x : Steam} (h : x.Has) : ¬ x.Serves := by
  rintro (e | e) <;> simp [Has, e] at h

theorem Steam.Taken.held {x : Steam} (h : x.Taken) : x.Held :=
  { h.toStoreSound with
    record := fun e => absurd e h.phase
    cold := fun _ => h.has.not_serves
    taken := fun _ => h.has }

theorem Steam.Held.toTaken {x : Steam} (h : x.Held) (hp : x.kept.phase ≠ .idle) : x.Taken :=
  { h.toStoreSound with phase := hp, has := h.taken hp }

theorem Steam.Held.toFree {x : Steam} (h : x.Held) (hp : x.kept.phase = .idle) : x.Free :=
  { h.toStoreSound with kept := h.record hp }

/-- A generator that no procedure can have is free. -/
theorem Steam.Held.free {x : Steam} (h : x.Held) (hs : ¬ x.Has) : x.Free :=
  h.toFree (by_contra fun hp => hs (h.taken hp))

theorem Steam.Free.sound {x : Steam} (h : x.Free) : x.kept.Sound := fun _ => h.kept

theorem Steam.Free.held {x : Steam} (h : x.Free) (hc : x.locked = true → ¬ x.Serves) : x.Held :=
  { h.toStoreSound with
    record := h.sound
    cold := hc
    taken := fun e => absurd (congrArg DescaleRec.phase h.kept) e }

theorem Steam.Free.rests {x : Steam} (h : x.Free) (hc : ¬ x.Serves) : x.Held := h.held fun _ => hc

/-- A procedure that has the generator stands in a phase of its own. -/
theorem Steam.StoreSound.taken {x : Steam} (h : x.StoreSound) (hs : x.Has) {k : DescaleRec}
    (hk : k.phase ≠ .idle) : Steam.Taken { x with kept := k } :=
  { retained := h.retained, writes := h.writes, phase := hk, has := hs }

/-- The procedure moves on to another record of a phase, the generator staying with it. -/
theorem Steam.Taken.rephase {x : Steam} (h : x.Taken) {k : DescaleRec} (hk : k.phase ≠ .idle) :
    Steam.Taken { x with kept := k } := h.toStoreSound.taken h.has hk

theorem Steam.Free.move {x : Steam} (h : x.Free) (st : GenState) (t c : Bool) :
    Steam.Free { x with state := st, take := t, scaled := c } :=
  { retained := h.retained, writes := h.writes, kept := h.kept }

theorem Steam.Taken.scale {x : Steam} (h : x.Taken) (c : Bool) :
    Steam.Taken { x with scaled := c } :=
  { retained := h.retained, writes := h.writes, phase := h.phase, has := h.has }

/-- The account may move where the generator does not serve. -/
theorem Steam.Held.scale {x : Steam} (h : x.Held) (hs : ¬ x.Serves) (c : Bool) :
    Steam.Held { x with scaled := c } :=
  { retained := h.retained, writes := h.writes, record := h.record, cold := fun _ => hs
    taken := h.taken }

/-! ### The invariant of O8 in these words -/

theorem mem_descaleRec {k : DescaleRec} {l : List Write} :
    k ∈ l.filterMap Write.descaleRec? ↔ .descale k ∈ l := by
  rw [List.mem_filterMap]
  constructor
  · rintro ⟨w, hw, e⟩
    cases w <;> cases e
    exact hw
  · exact fun h => ⟨_, h, rfl⟩

theorem SteamSafe.held {b : Block} (h : SteamSafe b) (hl : live b = true) : b.steam.Held where
  retained := h.retained
  writes k hk := h.writes k (mem_descaleRec.mp hk)
  record := h.record
  cold hk := not_or.mpr (h.cold hl hk)
  taken := h.taken hl

theorem Steam.Held.safe {b : Block} (h : b.steam.Held) : SteamSafe b where
  cold _ hk := not_or.mp (h.cold hk)
  taken _ := h.taken
  record := h.record
  retained := h.retained
  writes k hk := h.writes k (mem_descaleRec.mpr hk)

theorem SteamSafe.storeSound {b : Block} (h : SteamSafe b) : b.steam.StoreSound where
  retained := h.retained
  writes k hk := h.writes k (mem_descaleRec.mp hk)

/-- A part that is not at work needs its records sound, and no more. -/
theorem Steam.StoreSound.safe {b : Block} (h : b.steam.StoreSound) (hr : b.descale.kept.Sound)
    (hl : live b = false) : SteamSafe b where
  cold h := absurd h (by simp [hl])
  taken h := absurd h (by simp [hl])
  record := hr
  retained := h.retained
  writes k hk := h.writes k (mem_descaleRec.mpr hk)

/-! ### The view over the updates of a block -/

theorem enqueue_descaleRec {w : Write} (h : w.descaleRec? = none) (q : List Write) :
    (enqueue w q).filterMap Write.descaleRec? = q.filterMap Write.descaleRec? := by
  induction q with
  | nil => simp [enqueue, h]
  | cons x xs ih =>
    unfold enqueue
    split
    next e =>
      have hx : x.descaleRec? = none := by
        cases x
        case descale => cases w <;> cases e; cases h
        all_goals rfl
      simp [h, hx]
    next => simp only [List.filterMap_cons, ih]

theorem steam_queueWrite {w : Write} (h : w.descaleRec? = none) (b : Block) :
    (queueWrite w b).steam = b.steam := by
  have hw : (b.store.inFlight.toList ++ enqueue w b.store.queue).filterMap Write.descaleRec? =
      (b.store.inFlight.toList ++ b.store.queue).filterMap Write.descaleRec? := by
    rw [List.filterMap_append, enqueue_descaleRec h, ← List.filterMap_append]
  exact congrArg (fun l => { b.steam with writes := l }) hw

theorem steam_setChannel (c : Channel) (r : ChannelRec) (b : Block) :
    (setChannel c r b).steam = b.steam := by cases c <;> rfl

theorem steam_claim {k : Claim} {b c : Block} (h : claim k b = some c) : c.steam = b.steam :=
  (claim_some h).2 ▸ steam_setChannel _ _ _

theorem steam_release (c : Channel) (o : Owner) (b : Block) :
    (release c o b).steam = b.steam := by
  rcases release_cases c o b with e | ⟨-, e⟩ <;> rw [e]
  exact steam_setChannel _ _ _

theorem steam_endTransfer (c : Channel) (r : EndReason) (b : Block) :
    (endTransfer c r b).steam = b.steam := by
  rcases endTransfer_cases c r b with e | ⟨-, e⟩ <;> rw [e]
  exact steam_setChannel _ _ _

theorem steam_ite (c : Prop) {i : Decidable c} {a b : Block} {x : Steam} (ha : a.steam = x)
    (hb : b.steam = x) : (if c then a else b).steam = x := by
  split <;> assumption

theorem steam_followCondition (k : AttnKind) (v : Bool) (b : Block) :
    (followCondition k v b).steam = b.steam := steam_ite _ rfl rfl

theorem steam_followScale (b : Block) : (followScale b).steam = b.steam :=
  (steam_followCondition _ _ _).trans (steam_followCondition _ _ _)

theorem steam_refreshGenRow (b : Block) : (refreshGenRow b).steam = b.steam := by
  unfold refreshGenRow
  split <;> rfl

theorem steam_enterGen (st : GenState) (b : Block) :
    (enterGen st b).steam = { b.steam with state := st } := steam_refreshGenRow _

theorem steam_restIdle (b : Block) : (restIdle b).steam = { b.steam with state := .idle } :=
  steam_enterGen _ _

/-! ### The view over the accounting of a fill (R46, R59) -/

theorem steam_accountFill (b : Block) :
    (accountFill b).steam = { b.steam with scaled := (accountFill b).steam.scaled } := by
  unfold accountFill
  extract_lets a
  rw [steam_followScale, queueScale, steam_queueWrite rfl]
  rfl

theorem steam_settleFill (b : Block) :
    (settleFill b).steam = { b.steam with scaled := (settleFill b).steam.scaled } := by
  unfold settleFill
  extract_lets c d
  have hc : c.steam = { b.steam with scaled := c.steam.scaled } := by
    unfold c
    split
    · exact steam_accountFill b
    · rfl
  have hd : (setGen { d.gen with held := none } d).steam = c.steam := steam_release _ _ _
  rw [hd]
  exact hc

theorem steam_stopFill (b : Block) :
    (stopFill b).steam = { b.steam with scaled := (stopFill b).steam.scaled } := by
  unfold stopFill
  split
  · have h := steam_settleFill (endTransfer .fill .stopped b)
    rwa [steam_endTransfer] at h
  · rfl

theorem steam_genReleaseEnded (b : Block) :
    (genReleaseEnded b).steam = { b.steam with scaled := (genReleaseEnded b).steam.scaled } := by
  unfold genReleaseEnded
  extract_lets c d
  have hc : c.steam = { b.steam with scaled := c.steam.scaled } := by
    unfold c
    split
    · exact steam_settleFill b
    · rfl
  have hd : (setGen { d.gen with held := none, serviceDrain := false } d).steam = c.steam :=
    steam_release _ _ _
  split
  · rw [hd]
    exact hc
  · exact hc

theorem steam_endAllTransfers (r : EndReason) (b : Block) :
    (endAllTransfers r b).steam = b.steam :=
  (steam_endTransfer _ _ _).trans (steam_endTransfer _ _ _)

theorem steam_releaseDescale (c : Channel) (b : Block) : (releaseDescale c b).steam = b.steam :=
  steam_release _ _ _

theorem steam_settleEnded (b : Block) :
    (settleEnded b).steam = { b.steam with scaled := (settleEnded b).steam.scaled } := by
  unfold settleEnded
  extract_lets c
  split
  · rw [steam_releaseDescale]
    exact steam_genReleaseEnded b
  · exact steam_genReleaseEnded b

theorem steam_raiseOption (k : Option AttnKind) (b : Block) :
    (raiseOption k b).steam = b.steam := by
  unfold raiseOption
  split <;> rfl

end Sys2Proof.Machine
end

section
/-! SUPPORT. The generator's own work keeps the steam lock (R45 to R54, R62). -/

namespace Sys2Proof.Machine

namespace Steam.Held

/-- A choice between two parts that both keep the invariant. -/
theorem ite {c : Prop} {i : Decidable c} {a b : Block} (ha : a.steam.Held) (hb : b.steam.Held) :
    (if c then a else b).steam.Held := by split <;> assumption

theorem raised (k : AttnKind) (d : Detail) {b : Block} (h : b.steam.Held) :
    (raiseAttn k d b).steam.Held := h

/-! ### The generator's service -/

/-- The generator enters a state that does not serve, with no procedure in progress. -/
theorem rest {st : GenState} {b : Block} (h : b.steam.Free) (h1 : st ≠ .heating) (h2 : st ≠ .ready) :
    (enterGen st b).steam.Held := by
  rw [steam_enterGen]
  exact (h.move st b.steam.take b.steam.scaled).rests (not_or.mpr ⟨h1, h2⟩)

/-- The generator enters any state, with no lock and no procedure in progress. -/
theorem serve {b : Block} (st : GenState) (h : b.steam.Free) (hk : steamLock b = false) :
    (enterGen st b).steam.Held := by
  rw [steam_enterGen]
  exact (h.move st b.steam.take b.steam.scaled).held fun hl =>
    absurd (hl.symm.trans hk) (by decide)

/-- The end of a fill of the generator: the account may bring the lock, which ends the service. -/
theorem genFillEnd {r : EndReason} {b : Block} (h : b.steam.Held) (h1 : r ≠ .stopped)
    (h2 : r ≠ .interlock) : (genFillEnd r b).steam.Held := by
  unfold Machine.genFillEnd
  extract_lets c d
  have hd : d.steam = { b.steam with scaled := c.steam.scaled } :=
    (steam_raiseOption _ _).trans (steam_settleFill b)
  have state : ∀ {st : GenState}, d.gen.state = st → b.steam.state = st := fun e =>
    (congrArg Steam.state hd).symm.trans e
  have free : ¬ b.steam.Has → d.steam.Free := fun hn =>
    hd ▸ (h.free hn).move b.steam.state b.steam.take c.steam.scaled
  have filled : d.gen.state = .filling →
      (if steamLock d then enterGen .cooling d
        else if r = .level then enterGen .heating d else enterGen .waitWater d).steam.Held := by
    intro e
    have hf := free (by simp [Has, state e])
    split
    · exact rest hf (by decide) (by decide)
    next hk =>
      have hk := eq_false_of_ne_true hk
      split <;> exact serve _ hf hk
  have served : d.gen.state = .heating ∨ d.gen.state = .ready →
      (if steamLock d then enterGen .cooling d
        else if r = .level then d else enterGen .waitWater d).steam.Held := by
    intro e
    have hf := free (by rcases e with e | e <;> simp [Has, state e])
    split
    · exact rest hf (by decide) (by decide)
    next hk =>
      split
      · exact hf.held fun hl => absurd hl hk
      · exact rest hf (by decide) (by decide)
  have other : d.gen.state ≠ .heating → d.gen.state ≠ .ready → d.steam.Held := by
    intro n1 n2
    rw [hd]
    exact h.scale (not_or.mpr ⟨fun e => n1 ((congrArg Steam.state hd).trans e),
      fun e => n2 ((congrArg Steam.state hd).trans e)⟩) _
  split
  · exact absurd rfl h1
  · exact absurd rfl h2
  all_goals
    split
    next e => exact filled e
    next e => exact served (.inl e)
    next e => exact served (.inr e)
    next _ n1 n2 => exact other n1 n2

theorem takeImmediateFill {b : Block} (h : b.steam.Held) : (takeImmediateFill b).steam.Held :=
  ite (h.genFillEnd (by decide) (by decide)) h

theorem startFilling {b c : Block} (h : b.steam.Free) (e : startFilling b = some c) :
    c.steam.Held := by
  obtain ⟨d, hd, rfl⟩ := Option.map_eq_some_iff.mp e
  obtain ⟨x, hx, rfl⟩ := Option.map_eq_some_iff.mp hd
  have hg : (setGen { x.gen with held := some .serviceFill } x).steam.Free := steam_claim hx ▸ h
  exact (rest hg (by decide) (by decide)).takeImmediateFill

theorem claimRefill {b : Block} (h : b.steam.Held) : (claimRefill b).steam.Held := by
  unfold Machine.claimRefill
  split
  next c e =>
    obtain ⟨x, hx, rfl⟩ := Option.map_eq_some_iff.mp e
    have hg : (setGen { x.gen with held := some .refill } x).steam.Held := steam_claim hx ▸ h
    exact hg.takeImmediateFill
  next => exact h

theorem restIdle {b : Block} (h : b.steam.Free) : (restIdle b).steam.Held := by
  rw [steam_restIdle]
  exact (h.move .idle b.steam.take b.steam.scaled).rests (by simp [Serves])

theorem serviceDecision {b : Block} (h : b.steam.Free) : (serviceDecision b).steam.Held := by
  have hg : (setGen { b.gen with fillRefused := false } b).steam.Free := h
  have hr := restIdle h
  unfold Machine.serviceDecision
  split
  · exact hr
  next hk =>
    have hk := eq_false_of_ne_true hk
    refine ite hr ?_
    split
    case h_3 | h_4 => exact serve _ hg hk
    all_goals
      split
      next e => exact startFilling hg e
      next => exact hr

theorem enterIdle {b : Block} (h : b.steam.Free) : (enterIdle b).steam.Held := by
  have hf : (Machine.restIdle b).steam.Free := by
    rw [steam_restIdle]
    exact h.move .idle b.steam.take b.steam.scaled
  exact ite (serviceDecision hf) (restIdle h)

theorem startFilling_getD {b : Block} (h : b.steam.Held) (hf : b.steam.Free) :
    ((Machine.startFilling b).getD b).steam.Held :=
  Closed.getD (P := fun c => c.steam.Held) h fun _ => startFilling hf

theorem returnFromCooling {b : Block} (h : b.steam.Held) (hf : b.steam.Free) :
    (returnFromCooling b).steam.Held := by
  unfold Machine.returnFromCooling
  split
  · exact h
  next hn =>
    have hk : steamLock b = false := by
      simp only [Bool.or_eq_true, not_or, Bool.not_eq_true] at hn
      exact hn.1.1
    split
    · exact serve _ hf hk
    · exact serve _ hf hk
    · exact (serve _ hf hk).claimRefill
    · exact h.startFilling_getD hf

/-- A generator in a state that no procedure can have is free. -/
theorem freeAt {st : GenState} {b : Block} (h : b.steam.Held) (e : b.gen.state = st)
    (hn : st ≠ .descale ∧ st ≠ .fault ∧ st ≠ .draining) : b.steam.Free := h.free fun hs => by
  rcases hs with hs | hs | ⟨hs, -⟩
  · exact hn.1 (e.symm.trans hs)
  · exact hn.2.1 (e.symm.trans hs)
  · exact hn.2.2 (e.symm.trans hs)

theorem steamWantedSet {b : Block} (h : b.steam.Held) : (steamWantedSet b).steam.Held := by
  unfold Machine.steamWantedSet
  split
  next e => exact serviceDecision (h.freeAt e (by decide))
  next e => exact h.returnFromCooling (h.freeAt e (by decide))
  next => exact h

/-- A generator in service leaves it, its fill stopped: the account may bring the lock. -/
theorem coolStopped {st : GenState} {b : Block} (h : b.steam.Held) (e : b.gen.state = st)
    (hn : st ≠ .descale ∧ st ≠ .fault ∧ st ≠ .draining) :
    (enterGen .cooling (stopFill b)).steam.Held := by
  refine rest ?_ (by decide) (by decide)
  rw [steam_stopFill]
  exact (h.freeAt e hn).move b.steam.state b.steam.take (stopFill b).steam.scaled

theorem steamWantedCleared {b : Block} (h : b.steam.Held) :
    (steamWantedCleared b).steam.Held := by
  unfold Machine.steamWantedCleared
  split
  next e => exact h.coolStopped e (by decide)
  next e => exact h.coolStopped e (by decide)
  next e => exact h.coolStopped e (by decide)
  next e => exact restIdle (h.freeAt e (by decide))
  next => exact h

theorem retryWater {b : Block} (h : b.steam.Held) : (retryWater b).steam.Held := by
  unfold Machine.retryWater
  split
  next e => exact serviceDecision (h.freeAt e (by decide))
  next => exact h

theorem genLevelChange (new : Level) {b : Block} (h : b.steam.Held) :
    (genLevelChange new b).steam.Held := by
  have served : ∀ {st : GenState}, b.gen.state = st →
      st ≠ .descale ∧ st ≠ .fault ∧ st ≠ .draining →
      (if new = .dry then
        if b.fill.inFlight ∧ b.fill.owner = .generator then
          setGen { (enterGen .filling b).gen with held := some .serviceFill } (enterGen .filling b)
        else (Machine.startFilling b).getD b
      else if new = .low ∧ ¬ (b.fill.inFlight ∧ b.fill.owner = .generator) then
        Machine.claimRefill b
      else b).steam.Held := fun e hn => by
    have hf := h.freeAt e hn
    split
    · split
      · exact rest (b := b) (st := .filling) hf (by decide) (by decide)
      · exact h.startFilling_getD hf
    · exact ite h.claimRefill h
  unfold Machine.genLevelChange
  split
  next e => exact served e (by decide)
  next e => exact served e (by decide)
  next e =>
    exact ite (serviceDecision (h.freeAt e (by decide))) h
  next => exact h

theorem genWallSample (v : Int) {b : Block} (h : b.steam.Held) :
    (genWallSample v b).steam.Held := by
  have unlocked : b.steam.Serves → steamLock b = false := fun hs =>
    eq_false_of_ne_true fun hk => h.cold hk hs
  unfold Machine.genWallSample
  split
  next e =>
    exact ite
      (serve _ (h.freeAt e (by decide)) (unlocked (.inl e))) h
  next e =>
    exact ite
      (serve _ (h.freeAt e (by decide)) (unlocked (.inr e))) h
  next e =>
    refine ite ?_ h
    split
    next c ec =>
      obtain ⟨x, hx, rfl⟩ := Option.map_eq_some_iff.mp ec
      have hg : (setGen { x.gen with held := some .serviceDrain } x).steam.Free :=
        steam_claim hx ▸ h.freeAt e (by decide)
      exact rest hg (by decide) (by decide)
    next => exact h
  next => exact h

theorem genChannelInvalid {b : Block} (h : b.steam.Held) : (genChannelInvalid b).steam.Held := by
  unfold Machine.genChannelInvalid
  split
  next e => exact h.coolStopped e (by decide)
  next e => exact h.coolStopped e (by decide)
  next e => exact h.coolStopped e (by decide)
  next => exact h

theorem genChannelValid {b : Block} (h : b.steam.Held) : (genChannelValid b).steam.Held := by
  unfold Machine.genChannelValid
  split
  next e =>
    exact ite (serviceDecision (h.freeAt e (by decide))) h
  next => exact h

/-- FAULT is where a procedure may leave the generator, and it does not serve. -/
theorem toFault {x : Steam} (h : x.Held) (c : Bool) :
    Steam.Held { x with state := .fault, scaled := c } :=
  { retained := h.retained, writes := h.writes, record := h.record
    cold := fun _ => by simp [Serves], taken := fun _ => .inr (.inl rfl) }

theorem dryFire {b : Block} (h : b.steam.Held) : (dryFire b).steam.Held := by
  unfold Machine.dryFire
  extract_lets _ c d e
  have he : e.steam = { b.steam with scaled := e.steam.scaled } := by
    have hx := steam_genReleaseEnded (endAllTransfers .interlock d)
    rwa [steam_endAllTransfers] at hx
  have hf : (enterGen .fault e).steam.Held := by
    rw [steam_enterGen, he]
    exact h.toFault _
  exact hf.raised _ _

end Steam.Held
end Sys2Proof.Machine
end

section
/-! SUPPORT. The descaling procedure's own work keeps the steam lock (R82 to R97). -/

namespace Sys2Proof.Machine

/-! ### What leaves the view as it is -/

theorem steam_giveHeater (w : Nat) (b : Block) : (giveHeater w b).steam = b.steam :=
  steam_ite _ (steam_refreshGenRow (setDescale { b.descale with heater := w } b)) rfl

theorem steam_claimDescaleDrain (b : Block) : (claimDescaleDrain b).steam = b.steam := by
  unfold claimDescaleDrain
  refine steam_ite _ ?_ rfl
  split
  next c e => exact (steam_claim e : c.steam = b.steam)
  next => rfl

theorem steam_queueScale (b : Block) : (queueScale b).steam = b.steam := steam_queueWrite rfl _

theorem steam_leaveSoak (b : Block) : (leaveSoak b).steam = b.steam := steam_giveHeater _ _

theorem steam_stopDescale (c : Channel) (b : Block) : (stopDescale c b).steam = b.steam :=
  steam_ite _ ((steam_releaseDescale _ _).trans (steam_endTransfer _ _ _)) rfl

theorem steam_moveTankCycle (f : TankCycle → TankCycle) (b : Block) :
    (moveTankCycle f b).steam = b.steam := steam_ite _ rfl rfl

theorem steam_soakSample (v : Int) (b : Block) : (soakSample v b).steam = b.steam :=
  steam_ite _ (steam_giveHeater _ _) (steam_ite _ (steam_giveHeater _ _) rfl)

theorem steam_descaleWallInvalid (b : Block) : (descaleWallInvalid b).steam = b.steam :=
  steam_ite _ (steam_giveHeater _ _) rfl

/-! ### A procedure in progress goes from phase to phase -/

namespace Steam.Taken

theorem ite {c : Prop} {i : Decidable c} {a b : Block} (ha : a.steam.Taken)
    (hb : b.steam.Taken) : (if c then a else b).steam.Taken := by split <;> assumption

theorem setKept {k : DescaleRec} {b : Block} (h : b.steam.Taken) (hk : k.phase ≠ .idle) :
    (setKept k b).steam.Taken := h.rephase hk

theorem setPhase {p : DescalePhase} {b : Block} (h : b.steam.Taken) (hp : p ≠ .idle) :
    (setPhase p b).steam.Taken := h.rephase hp

theorem followScale {b : Block} (h : b.steam.Taken) : (followScale b).steam.Taken := by
  rwa [steam_followScale]

theorem claimDescaleDrain {b : Block} (h : b.steam.Taken) :
    (claimDescaleDrain b).steam.Taken := by rwa [steam_claimDescaleDrain]

theorem leaveSoak {b : Block} (h : b.steam.Taken) : (leaveSoak b).steam.Taken := by
  rwa [steam_leaveSoak]

theorem enterSoak {b : Block} (h : b.steam.Taken) : (enterSoak b).steam.Taken := by
  unfold Machine.enterSoak
  extract_lets c _ d
  have hd : d.steam.Taken := h.setPhase (p := .soak) (by decide)
  rwa [steam_giveHeater]

theorem enterRinseHold {b : Block} (h : b.steam.Taken) : (enterRinseHold b).steam.Taken :=
  h.setPhase (by decide)

theorem enterDrainPhase {p : DescalePhase} {b : Block} (h : b.steam.Taken) (hp : p ≠ .idle) :
    (enterDrainPhase p b).steam.Taken := (h.setPhase hp).claimDescaleDrain

theorem enterAddAgent {b : Block} (h : b.steam.Taken) : (enterAddAgent b).steam.Taken :=
  h.setPhase (by decide)

theorem enterRefillClean {b : Block} (h : b.steam.Taken) : (enterRefillClean b).steam.Taken :=
  h.setPhase (by decide)

theorem examineDrainOld {b : Block} (h : b.steam.Taken) : (examineDrainOld b).steam.Taken :=
  ite h.enterAddAgent h.claimDescaleDrain

theorem agentDrained {b : Block} (h : b.steam.Taken) : (agentDrained b).steam.Taken := by
  have hk : (Machine.setKept { b.descale.kept with agentRedo := false } b).steam.Taken :=
    h.setKept h.phase
  exact ite hk.enterAddAgent hk.enterRefillClean

theorem setAborted {b : Block} (h : b.steam.Taken) : (setAborted b).steam.Taken :=
  h.setKept h.phase

theorem completeSoak {b : Block} (h : b.steam.Taken) : (completeSoak b).steam.Taken := by
  unfold Machine.completeSoak
  extract_lets a s _ c _ d e
  have hd : d.steam.Taken := (h.scale c.steam.scaled).rephase (k := { b.descale.kept with
    soakDone := true }) h.phase
  have he : e.steam.Taken := by
    unfold e
    rwa [steam_followScale, steam_queueScale, steam_leaveSoak]
  exact he.enterDrainPhase (by decide)

theorem countSoakSecond {b : Block} (h : b.steam.Taken) : (countSoakSecond b).steam.Taken := by
  have hk : ∀ n, (Machine.setKept { b.descale.kept with minutes := n }
      (setDescale { b.descale with seconds := 0 } b)).steam.Taken := fun n =>
    h.setKept (k := { b.descale.kept with minutes := n }) h.phase
  exact ite h (ite (hk _).completeSoak (hk _))

end Steam.Taken

namespace Steam.Held

theorem followCondition (k : AttnKind) (v : Bool) {b : Block} (h : b.steam.Held) :
    (followCondition k v b).steam.Held := by rwa [steam_followCondition]

theorem followScale {b : Block} (h : b.steam.Held) : (followScale b).steam.Held := by
  rwa [steam_followScale]

theorem claimDescaleDrain {b : Block} (h : b.steam.Held) : (claimDescaleDrain b).steam.Held := by
  rwa [steam_claimDescaleDrain]

theorem releaseDescale (c : Channel) {b : Block} (h : b.steam.Held) :
    (releaseDescale c b).steam.Held := by rwa [steam_releaseDescale]

theorem waterWait (w : WaterWait) {b : Block} (h : b.steam.Held) : (waterWait w b).steam.Held := h

/-! ### Transfers of the procedure (R85, R87, R88) -/

/-- The procedure is in progress in a phase that is not IDLE. -/
theorem takenIn {p : DescalePhase} {b : Block} (h : b.steam.Held) (e : b.descale.kept.phase = p)
    (hp : p ≠ .idle) : b.steam.Taken := h.toTaken fun he => hp (e.symm.trans he)

theorem descaleFillDone {b : Block} (h : b.steam.Held) : (descaleFillDone b).steam.Held := by
  unfold Machine.descaleFillDone
  split
  next e => exact (h.takenIn e (by decide)).enterSoak.held
  next e => exact (h.takenIn e (by decide)).enterRinseHold.held
  next => exact h

theorem descaleFillEnd (r : EndReason) {b : Block} (h : b.steam.Held) :
    (descaleFillEnd r b).steam.Held := by
  have hr := h.releaseDescale .fill
  unfold Machine.descaleFillEnd
  extract_lets dry c
  split
  · exact hr.descaleFillDone
  · exact ite (hr.waterWait _) hr.descaleFillDone
  all_goals exact hr

theorem claimDescaleFill {b : Block} (h : b.steam.Held) : (claimDescaleFill b).steam.Held := by
  unfold Machine.claimDescaleFill
  refine ite ?_ h
  split
  next c e =>
    have hc : (setDescale { c.descale with transfer := some .fill } c).steam.Held :=
      steam_claim e ▸ h
    exact ite (hc.descaleFillEnd _) hc
  next => exact h

theorem claimPhaseTransfer {b : Block} (h : b.steam.Held) :
    (claimPhaseTransfer b).steam.Held := by
  unfold Machine.claimPhaseTransfer
  split
  case h_1 | h_2 | h_3 => exact h.claimDescaleDrain
  case h_4 | h_5 => exact h.claimDescaleFill
  all_goals exact h

theorem retryDescale {b : Block} (h : b.steam.Held) : (retryDescale b).steam.Held := by
  unfold Machine.retryDescale
  split
  · exact claimPhaseTransfer (b := setDescale { b.descale with wait := none } b) h
  · exact h

theorem enterRinseFill {b : Block} (h : b.steam.Taken) : (enterRinseFill b).steam.Held :=
  (h.setPhase (by decide)).held.claimDescaleFill

/-- Rinse owed is set, and with it the lock, for a generator that the procedure has (R87). -/
theorem enterAgentFill {b : Block} (h : b.steam.Taken) : (enterAgentFill b).steam.Held := by
  have hk : (Machine.setKept { b.descale.kept with phase := .agentFill, rinseOwed := true }
      b).steam.Taken := h.setKept (by simp)
  exact hk.held.followScale.claimDescaleFill

/-! ### The end of the procedure, and its restart (R94, R96, R97) -/

theorem restartPhase (fresh : Bool) {b : Block} (h : b.steam.Held) :
    (restartPhase fresh b).steam.Held := by
  unfold Machine.restartPhase
  split
  next => exact h
  next e => exact (h.takenIn e (by decide)).examineDrainOld.held
  next e => exact ite (h.takenIn e (by decide)).enterAddAgent.held h
  next e =>
    have ht := h.takenIn e (by decide)
    have hk : (setKept { b.descale.kept with agentRedo := true } b).steam.Taken :=
      ht.setKept ht.phase
    exact (hk.enterDrainPhase (by decide)).held
  next e =>
    have ht := h.takenIn e (by decide)
    exact ite (ht.enterDrainPhase (by decide)).held ht.enterSoak.held
  next => exact h.claimDescaleDrain
  next => exact h.claimDescaleDrain
  next e => exact ite (h.takenIn e (by decide)).enterRefillClean.held h
  next => exact h.claimDescaleFill
  next e => exact (h.takenIn e (by decide)).enterRinseHold.held

theorem resumeDescale {b : Block} (h : b.steam.Held) : (resumeDescale b).steam.Held := by
  unfold Machine.resumeDescale
  refine ite ?_ (h.restartPhase true)
  split
  next e => exact (h.takenIn e (by decide)).enterAddAgent.held
  next e => exact (h.takenIn e (by decide)).enterRefillClean.held
  next => exact h

/-- The work of the climate and the runner keeps the invariant. -/
theorem cook : CookWork fun b => b.steam.Held where
  climate _ _ h := h
  run _ _ h := h
  attn _ _ h := h
  reports _ _ h := h
  checkpoint k b h := (steam_queueWrite (w := .checkpoint k) rfl b).symm ▸ h
  rows _ _ h := h
  demand _ _ _ h := h
  wanted h := h.steamWantedSet
  unwanted h := h.steamWantedCleared

/-- The end of the procedure takes the lock's rinse away and sends the generator to IDLE (R94). -/
theorem endDescale {b : Block} (h : b.steam.Held) : (endDescale b).steam.Held := by
  unfold Machine.endDescale
  extract_lets done c d e _ f g
  have hc : c.steam.Free :=
    { retained := h.retained, writes := h.writes, kept := rfl }
  have he : e.steam = c.steam := steam_ite _ (steam_followScale c) (steam_followScale c)
  have hf : f.steam.Free := (he ▸ hc).move e.steam.state false e.steam.scaled
  have cold : e.steam.locked = true → ¬ e.steam.Serves := by
    rw [he]
    intro hk
    have hs : b.steam.scaled = true := (Bool.or_false _).symm.trans hk
    exact h.cold (Bool.or_eq_true_iff.mpr (.inl hs))
  have hg : g.steam.Held := ite (enterIdle hf) (hf.held cold)
  exact ite (cook.enterFault (cook.climate _ hg)) (cook.climate _ hg)

end Steam.Held
end Sys2Proof.Machine
end

section
/-! SUPPORT. End reports, levels and samples keep the steam lock (R43, R51, R54, R80, R83, R95). -/

namespace Sys2Proof.Machine

namespace Steam.Held

/-! ### End reports (R51, R80, R85) -/

theorem rinseDone {b : Block} (h : b.steam.Taken) : (rinseDone b).steam.Held := by
  have hk : (setKept { b.descale.kept with rinses := b.descale.kept.rinses + 1 } b).steam.Taken :=
    h.setKept h.phase
  exact ite hk.held.endDescale (enterRinseFill hk)

theorem descaleDrainDone {b : Block} (h : b.steam.Held) : (descaleDrainDone b).steam.Held := by
  unfold Machine.descaleDrainDone
  split
  next e => exact (h.takenIn e (by decide)).enterAddAgent.held
  next e => exact (h.takenIn e (by decide)).agentDrained.held
  next e => exact rinseDone (h.takenIn e (by decide))
  next => exact h

theorem descaleDrainEnd (r : EndReason) {b : Block} (h : b.steam.Held) :
    (descaleDrainEnd r b).steam.Held := by
  have hr := h.releaseDescale .drain
  unfold Machine.descaleDrainEnd
  extract_lets c
  split
  · exact hr.descaleDrainDone
  · exact hr.descaleDrainDone
  all_goals exact hr

/-- The generator enters DESCALE, which a procedure in progress needs. -/
theorem toDescale {b : Block} (h : b.steam.Held) : (enterGen .descale b).steam.Held := by
  rw [steam_enterGen]
  exact
    { retained := h.retained, writes := h.writes, record := h.record
      cold := fun _ => by simp [Serves], taken := fun _ => .inl rfl }

theorem genDrainEnd (r : EndReason) {b : Block} (h : b.steam.Held) :
    (genDrainEnd r b).steam.Held := by
  unfold Machine.genDrainEnd
  extract_lets c _ d e
  have hc : c.steam.Held := by
    unfold c
    rwa [steam_release]
  have hd : d.steam.Held := hc
  have he : e.steam.Held := ite (hd.raised _ _) hd
  have ended : (if e.gen.state = .draining then
      if e.gen.descaleTake then enterGen .descale e else Machine.enterIdle e else e).steam.Held := by
    split
    next hs =>
      split
      next => exact he.toDescale
      next ht =>
        refine enterIdle (he.free fun hx => ?_)
        rcases hx with hx | hx | ⟨-, hx⟩
        · exact absurd (hs.symm.trans hx) (by decide)
        · exact absurd (hs.symm.trans hx) (by decide)
        · exact ht hx
    next => exact he
  split
  · exact ended
  · exact ended
  · exact ended
  all_goals exact hd

theorem genDrainReport (r : EndReason) {b : Block} (h : b.steam.Held) :
    (genDrainReport r b).steam.Held := by
  have hg := h.genDrainEnd r
  unfold Machine.genDrainReport
  extract_lets was c
  split
  next hs =>
    have hx : Steam.Taken { c.steam with kept := { c.descale.kept with phase := .addAgent } } :=
      hg.toStoreSound.taken (.inl hs.2) (by simp)
    exact ite hx.held hg.claimDescaleDrain
  next => exact hg

theorem deliverEnd (c : Channel) {r : EndReason} {b : Block} (h : b.steam.Held)
    (h1 : r ≠ .stopped) (h2 : r ≠ .interlock) : (deliverEnd c r b).steam.Held := by
  unfold Machine.deliverEnd
  split
  · exact h.genFillEnd h1 h2
  · exact h.genDrainReport r
  · exact h.descaleFillEnd r
  · exact h.descaleDrainEnd r
  · exact h

theorem endAndDeliver (c : Channel) {r : EndReason} {b : Block} (h : b.steam.Held)
    (h1 : r ≠ .stopped) (h2 : r ≠ .interlock) : (endAndDeliver c r b).steam.Held := by
  refine ite (deliverEnd c ?_ h1 h2) h
  rwa [steam_endTransfer]

theorem followInterlock (i : Interlock) (v : Bool) {b : Block} (h : b.steam.Held) :
    (followInterlock i v b).steam.Held := ite h h

theorem levelChange (new : Level) {b : Block} (h : b.steam.Held) :
    (levelChange new b).steam.Held := by
  unfold Machine.levelChange
  refine ite h ?_
  extract_lets _ c d e f
  have hc : c.steam.Held := h
  have he : e.steam.Held := (hc.followInterlock _ _).genLevelChange new
  have hf : f.steam.Held := ite (he.endAndDeliver .fill (by decide) (by decide)) he
  rwa [steam_setChannel]

/-! ### Begin, abort, soak (R83, R90, R95) -/

theorem beginDescale {b : Block} (h : b.steam.Held) : (beginDescale b).steam.Held := by
  unfold Machine.beginDescale
  extract_lets c _ d _ e
  have he : e.steam.StoreSound := ⟨h.retained, h.writes⟩
  have hp : e.steam.kept.phase ≠ .idle := fun hx => DescalePhase.noConfusion hx
  split
  next hs =>
    have ht : (setGen { e.gen with descaleTake := true } e).steam.Taken :=
      { retained := he.retained, writes := he.writes, phase := hp, has := .inr (.inr ⟨hs, rfl⟩) }
    exact ht.held
  next =>
    have ht : (enterGen .descale e).steam.Taken := by
      rw [steam_enterGen]
      exact { retained := he.retained, writes := he.writes, phase := hp, has := .inl rfl }
    exact ht.examineDrainOld.held

theorem abortToRefill {b : Block} (h : b.steam.Taken) : (abortToRefill b).steam.Held :=
  ite (h.setPhase (by decide)).held h.enterRefillClean.held

theorem abortDescale {b : Block} (h : b.steam.Held) : (abortDescale b).steam.Held := by
  unfold Machine.abortDescale
  split
  next => exact h
  next =>
    refine endDescale ?_
    rwa [steam_stopDescale]
  next e =>
    have ht : (clearAttn .addDescaler b).steam.Taken := h.takenIn e (by decide)
    exact ite (abortToRefill ht.setAborted) ht.held.endDescale
  next e =>
    have ht : (stopDescale .fill (setAborted b)).steam.Taken := by
      rw [steam_stopDescale]
      exact (h.takenIn e (by decide)).setAborted
    exact Taken.held (Taken.enterDrainPhase ht (by decide))
  next e =>
    have ht := (h.takenIn e (by decide)).setAborted.leaveSoak
    exact (ht.enterDrainPhase (by decide)).held
  next e => exact (h.takenIn e (by decide)).setAborted.held
  next e => exact (h.takenIn e (by decide)).setAborted.held
  next e => exact (h.takenIn e (by decide)).setAborted.held
  next e => exact (h.takenIn e (by decide)).setAborted.held
  next e => exact (h.takenIn e (by decide)).setAborted.held

theorem soakExpiry {b : Block} (h : b.steam.Held) : (soakExpiry b).steam.Held := by
  unfold Machine.soakExpiry
  split
  next hs => exact (h.takenIn hs.2.1 (by decide)).countSoakSecond.held
  next => exact h

theorem rinseHoldEnd {b : Block} (h : b.steam.Held) : (rinseHoldEnd b).steam.Held := by
  unfold Machine.rinseHoldEnd
  split
  next hs =>
    have ht := h.takenIn hs.2 (by decide)
    exact Taken.held (Taken.enterDrainPhase ht (by decide))
  next => exact h

/-! ### The dry-fire latch (R54, R96) -/

theorem descaleDryFire {b : Block} (h : b.steam.Held) (hs : ¬ b.steam.Serves) :
    (descaleDryFire b).steam.Held := by
  refine ite ?_ h
  have hc : (settleEnded b).steam.Held := by
    rw [steam_settleEnded]
    exact h.scale hs _
  exact hc

theorem dryFireAll {b : Block} (h : b.steam.Held) : (dryFireAll b).steam.Held := by
  have hs : (Machine.dryFire b).gen.state = .fault := enterGen_state .fault _
  refine h.dryFire.descaleDryFire fun hx => ?_
  rcases hx with e | e <;> exact absurd (hs.symm.trans e) (by decide)

theorem clearDryFire {b : Block} (h : b.steam.Held) : (clearDryFire b).steam.Held := by
  rw [clearDryFire_unlatched]
  have hu : (unlatched b).steam.Held := h
  split
  next => exact hu.toDescale.restartPhase false
  next hd => exact enterIdle (hu.toFree (by_contra fun hp => hd (decide_eq_true hp)))

end Steam.Held
end Sys2Proof.Machine
end

section
/-! SUPPORT. The end of an event, the store and the samples keep the steam lock
(R89, R162, R174, R182). -/

namespace Sys2Proof.Machine

/-! ### The store's writes -/

namespace Steam.StoreSound

theorem queued {w : Write} {b : Block} (h : b.steam.StoreSound)
    (hw : ∀ k, w = .descale k → k.Sound) : (queueWrite w b).steam.StoreSound where
  retained := h.retained
  writes k hk := by
    rcases List.mem_append.mp (mem_descaleRec.mp hk) with hm | hm
    · exact h.writes k (mem_descaleRec.mpr (List.mem_append_left _ hm))
    · rcases mem_enqueue hm with e | hm
      · exact hw k e.symm
      · exact h.writes k (mem_descaleRec.mpr (List.mem_append_right _ hm))

theorem served {b : Block} (h : b.steam.StoreSound) : (serveStore b).steam.StoreSound := by
  have sub : ∀ {c : Block}, c.store.descale = b.store.descale →
      (∀ k, .descale k ∈ c.store.inFlight.toList ++ c.store.queue →
        .descale k ∈ b.store.inFlight.toList ++ b.store.queue) → c.steam.StoreSound :=
    fun hr hw =>
      { retained := (congrArg DescaleRec.Sound hr).mpr h.retained
        writes := fun k hk => h.writes k (mem_descaleRec.mpr (hw k (mem_descaleRec.mp hk))) }
  rcases serveStore_cases b with e | ⟨w, hw, e⟩ | ⟨n, hf, e⟩ <;> rw [e]
  · exact h
  · refine sub rfl fun k hm => List.mem_append_right _ ?_
    rcases List.mem_cons.mp hm with rfl | hm
    · exact hw
    · exact List.mem_of_mem_filter hm
  · refine sub rfl fun k hm => List.mem_append_right _ ?_
    rcases List.mem_cons.mp hm with hm | hm
    · cases hm
    · exact hm

theorem committed {b : Block} (h : b.steam.StoreSound) {w : Write}
    (hw : b.store.inFlight = some w) :
    (setStore { b.store.commit w with inFlight := none } b).steam.StoreSound where
  retained := by
    cases w
    case descale k => exact h.writes k (mem_descaleRec.mpr (by simp [hw]))
    all_goals exact h.retained
  writes k hk := by
    have hm : .descale k ∈ (b.store.commit w).queue := mem_descaleRec.mp hk
    rw [commit_queue] at hm
    exact h.writes k (mem_descaleRec.mpr (List.mem_append_right _ hm))

end Steam.StoreSound

namespace Steam.Held

/-- The invariant over a change of the store alone. -/
theorem stored {r : Store} {b : Block} (h : b.steam.Held) (hs : (setStore r b).steam.StoreSound) :
    (setStore r b).steam.Held :=
  { hs with record := h.record, cold := h.cold, taken := h.taken }

theorem queued {w : Write} {b : Block} (h : b.steam.Held) (hw : ∀ k, w = .descale k → k.Sound) :
    (queueWrite w b).steam.Held := h.stored (h.toStoreSound.queued hw)

theorem served {b : Block} (h : b.steam.Held) : (serveStore b).steam.Held := by
  have hs := h.toStoreSound.served
  rw [serveStore_frame] at hs ⊢
  exact h.stored (r := (serveStore b).store) hs

end Steam.Held

/-! ### The end of an event, and the requests around it -/

theorem steam_wake (c : WakeCause) (b : Block) : (wake c b).steam = b.steam := by
  unfold wake
  split <;> rfl

theorem steam_enterStandby (b : Block) : (enterStandby b).steam = b.steam := by
  rw [enterStandby_eq]
  exact steam_queueScale b

/-- What the end of an event can do, each examination alone (R82, R144, R174, R182, R193). -/
theorem finishEvent_closed {P : Block → Prop} (a : Block)
    (door : ∀ v {b : Block}, P b → P (followCondition .doorOpen v b))
    (kept : ∀ {b : Block}, P b → P (queueWrite (.descale b.descale.kept) b))
    (silence : ∀ q {b : Block}, P b → P (setSilence q b))
    (awake : ∀ {b : Block}, P b → P (setLife { b.life with power := .awake } b))
    (rested : ∀ {b : Block}, P b → P (enterStandby b))
    (served : ∀ {b : Block}, P b → P (serveStore b)) {b : Block} (h : P b) :
    P (finishEvent a b) := by
  have hdoor : P (examineDoorOpen a b) := Closed.ite h (Closed.ite h (door _ h))
  have hkept : ∀ {c : Block}, P c → P (examineDescaleWrite a c) := fun h => Closed.ite h (kept h)
  have hsilence : ∀ {c : Block}, P c → P (examineSilence a c) := fun h =>
    Closed.ite h (Closed.ite (Closed.ite h (silence _ h)) (silence _ h))
  have hstandby : ∀ {c : Block}, P c → P (examineStandby a c) := fun h =>
    Closed.ite h (Closed.ite (awake h) (Closed.ite (rested h) h))
  have hstore : ∀ {c : Block}, P c → P (examineStore a c) := fun h => Closed.ite h (served h)
  exact hstore (hstandby (hsilence (hkept hdoor)))

namespace Steam.Held

theorem wake (c : WakeCause) {b : Block} (h : b.steam.Held) : (wake c b).steam.Held := by
  rwa [steam_wake]

theorem enterStandby {b : Block} (h : b.steam.Held) : (enterStandby b).steam.Held := by
  rwa [steam_enterStandby]

theorem finishEvent (a : Block) {b : Block} (h : b.steam.Held) : (finishEvent a b).steam.Held :=
  finishEvent_closed (P := fun c => c.steam.Held) a (fun _ _ h => h.followCondition _ _)
    (fun h => h.queued fun k e => by cases e; exact h.record) (fun _ _ h => h) (fun h => h)
    (fun h => h.enterStandby) (fun h => h.served) h

/-- A request at a part at work, handled or dropped. -/
theorem request (kind : Byte) {handler : Block → Answer}
    (hh : ∀ b, b.steam.Held → (handler b).after.steam.Held) {b : Block} (h : b.steam.Held) :
    (request kind handler b).steam.Held :=
  ite h (ite (finishEvent b (b := dropFrame (Machine.wake .link b)) (h.wake .link))
    (finishEvent _ (hh (acceptFrame (Machine.wake .link b)) (cook.endSilent (h.wake .link)))))

theorem startIfDue {b : Block} (h : b.steam.Held) : (startIfDue b).steam.Held := by
  unfold Machine.startIfDue
  split
  · exact ite h (cook.beginRun _ (h.wake _))
  · exact h

/-! ### Samples (R22, R54, R89, R162) -/

theorem overtemperature {b : Block} (h : b.steam.Held) : (overtemperature b).steam.Held := by
  unfold Machine.overtemperature
  extract_lets _ c d e
  have hd : d.steam.Held := cook.zeroDemand (b := setInterlock .overtemp c) h
  have he : e.steam.Held := ite hd (cook.enterFault hd)
  exact (cook.endRun _ he).raised _ _

theorem cavitySample (v : Int) {b : Block} (h : b.steam.Held) : (cavitySample v b).steam.Held :=
  ite h.overtemperature h

theorem deliverCavity (d : Delivery) {b : Block} (h : b.steam.Held) :
    (deliverCavity d b).steam.Held := by
  unfold Machine.deliverCavity
  split
  · exact h
  · exact h.cavitySample _
  · exact (cook.runSensor _ (cook.putReasons _ (b := clearSource .cavity b) h)).cavitySample _
  · exact cook.runSensor _ (cook.putReasons _ (h.raised _ _))
  · exact h.raised _ _

theorem descaleWallSample (v : Int) {b : Block} (h : b.steam.Held) :
    (descaleWallSample v b).steam.Held :=
  ite h (ite (by rwa [steam_soakSample]) (ite h.claimPhaseTransfer h))

theorem wallSample (v : Int) {b : Block} (h : b.steam.Held) : (wallSample v b).steam.Held :=
  ite h.dryFireAll ((h.genWallSample v).descaleWallSample v)

theorem deliverGenerator (d : Delivery) {b : Block} (h : b.steam.Held) :
    (deliverGenerator d b).steam.Held := by
  unfold Machine.deliverGenerator
  split
  · exact h
  · exact h.wallSample _
  · exact (genChannelValid (b := clearSource .generator b) h).wallSample _
  · rw [steam_descaleWallInvalid]
    exact (h.raised _ _).genChannelInvalid
  · exact h.raised _ _

theorem deliverProbe (d : Delivery) {b : Block} (h : b.steam.Held) :
    (deliverProbe d b).steam.Held := by
  unfold Machine.deliverProbe
  split
  case h_3 => exact ite h h
  all_goals exact h

theorem deliverMoisture (d : Delivery) {b : Block} (h : b.steam.Held) :
    (deliverMoisture d b).steam.Held := by
  unfold Machine.deliverMoisture
  split <;> exact h

theorem sampleChannel (c : AnalogChannel) (s : Sample) {b : Block} (h : b.steam.Held) :
    (sampleChannel c s b).steam.Held := by
  unfold Machine.sampleChannel deliver
  have ha : ∀ a, (setAnalog c a b).steam.Held := fun a => by cases c <;> exact h
  extract_lets r
  cases c
  · exact (ha r.1).deliverCavity _
  · exact (ha r.1).deliverGenerator _
  · exact (ha r.1).deliverProbe _
  · exact (ha r.1).deliverProbe _
  · exact (ha r.1).deliverProbe _
  · exact (ha r.1).deliverMoisture _

theorem takeSamples (x : Samples) {b : Block} (h : b.steam.Held) :
    (takeSamples x b).steam.Held := by
  have h2 := (h.sampleChannel .cavity x.cavity).sampleChannel .generator x.generator
  exact sampleChannel _ _
    (ite (((h2.sampleChannel _ _).sampleChannel _ _).sampleChannel _ _) h2)

theorem followLevelFault {b : Block} (h : b.steam.Held) : (followLevelFault b).steam.Held :=
  ite (h.raised _ _) h

theorem takeSwitches {b : Block} (h : b.steam.Held) : (takeSwitches b).steam.Held := by
  have hg : (setGen { b.gen with level := derivedLevel b.switches } b).steam.Held := h
  exact (hg.followInterlock .door (doorOpen _)).followInterlock .dryLevel
    (decide (derivedLevel b.switches = .dry))

theorem endStartUp {b : Block} (h : b.steam.Held) : (endStartUp b).steam.Held := by
  have hl := (cook.takeReasons h.takeSwitches).followLevelFault.resumeDescale
  exact (cook.resumeRunStep hl).startIfDue.followCondition _ _

theorem sampling (x : Samples) {b : Block} (h : b.steam.Held) : (sampling x b).steam.Held := by
  have ht := h.takeSamples x
  unfold Machine.sampling countSettling
  split
  · exact ht
  · exact ite ht ht.endStartUp

/-! ### Switches (R4, R43, R52, R76, R92) -/

theorem setDebounced (i : SwitchInput) (v : Bool) {b : Block} (h : b.steam.Held) :
    (setDebounced i v b).steam.Held := h

theorem debounced (i : SwitchInput) (v : Bool) {settle change : Block → Block}
    (hs : ∀ b, b.steam.Held → (settle b).steam.Held)
    (hc : ∀ b, b.steam.Held → (change b).steam.Held) {b : Block} (h : b.steam.Held) :
    (debounced i v settle change b).steam.Held :=
  ite h (ite (hs _ (h.setDebounced i v)) (ite h (hc _ (h.setDebounced i v))))

theorem contactSettled {b : Block} (h : b.steam.Held) : (contactSettled b).steam.Held :=
  followInterlock _ _ (cook.putReasons _ h)

theorem contactChange (v : Bool) {b : Block} (h : b.steam.Held) :
    (contactChange v b).steam.Held := by
  have hd : (followDisagreement (Machine.wake .door b)).steam.Held := ite (h.wake _) (h.wake _)
  exact ite hd (ite (cook.runDoorOpened (cook.putReasons _ (cook.climate _ hd)))
    (cook.runDoorClosed (cook.putReasons _ (b := clearInterlock .door _) hd)))

theorem tankInserted {b : Block} (h : b.steam.Held) : (tankInserted b).steam.Held := by
  refine retryDescale ?_
  rw [steam_moveTankCycle]
  refine retryWater ?_
  rw [steam_setChannel, steam_setChannel]
  exact h.wake _

theorem tankRemoved {b : Block} (h : b.steam.Held) : (tankRemoved b).steam.Held := by
  unfold Machine.tankRemoved
  rw [steam_moveTankCycle, steam_setChannel, steam_setChannel]
  exact h.wake _

theorem electrodeChanged {b : Block} (h : b.steam.Held) : (electrodeChanged b).steam.Held :=
  h.followLevelFault.levelChange _

/-! ### The channels (R69, R77) -/

theorem pacing (c : Channel) {b : Block} (h : b.steam.Held) : (pacing c b).steam.Held := by
  unfold Machine.pacing
  extract_lets r
  refine ite ?_ h
  split
  next e hr =>
    have hn : e ≠ .stopped ∧ e ≠ .interlock := by
      unfold pacingEnd at hr
      split_ifs at hr <;> cases hr <;> decide
    exact h.endAndDeliver c hn.1 hn.2
  next => rwa [steam_setChannel]

theorem pauseTimeout (c : Channel) {b : Block} (h : b.steam.Held) :
    (pauseTimeout c b).steam.Held := by
  refine ite (endAndDeliver c ?_ (by decide) (by decide)) h
  rwa [steam_setChannel]

end Steam.Held
end Sys2Proof.Machine
end

section
/-! SUPPORT. Every request keeps the steam lock (R8 to R18, R51, R55, R82 to R99, R152 to R154). -/

namespace Sys2Proof.Machine
namespace Steam.Held

/-! ### The attention entries (R152 to R154) -/

theorem latchedClosed (k : AttnKind) {b : Block} (h : b.steam.Held) :
    (latchedClosed k b).steam.Held :=
  ite (ite h.retryWater.retryDescale h.retryWater) h

/-- The prompts of a procedure are accepted in their phases alone. -/
theorem promptAccepted {k : AttnKind} {b : Block} (h : b.steam.Held) (hr : promptReady k b = true) :
    (promptAccepted k (clearAttn k b)).steam.Held := by
  have hc : (clearAttn k b).steam.Held := cook.cleared k h
  unfold Machine.promptAccepted
  split
  · simp only [promptReady, Bool.and_eq_true, decide_eq_true_eq] at hr
    exact enterAgentFill (hc.takenIn (p := .addAgent) hr.1.1 (by decide))
  · simp only [promptReady, Bool.and_eq_true, decide_eq_true_eq] at hr
    exact enterRinseFill (hc.takenIn (p := .refillClean) hr.1.1.1 (by decide))
  · exact cook.promptClosed hc
  · exact cook.checkClosed hc
  · exact hc

theorem closeEntry (k : AttnKind) {b : Block} (h : b.steam.Held) :
    (closeEntry k b).after.steam.Held := by
  unfold Machine.closeEntry
  split
  · exact latchedClosed k (cook.cleared k h)
  · split
    · exact cook.attn _ h
    · exact cook.cleared k h
  · split
    next hr => exact h.promptAccepted hr
    next => exact h

theorem attentionTakeRequest (p : Payload) {b : Block} (h : b.steam.Held) :
    (attentionTakeRequest p b).after.steam.Held := by
  unfold Machine.attentionTakeRequest
  split
  · exact h
  split
  · exact h
  · split <;> exact h

theorem attentionCloseRequest (p : Payload) {b : Block} (h : b.steam.Held) :
    (attentionCloseRequest p b).after.steam.Held := by
  unfold Machine.attentionCloseRequest
  split
  · exact h
  split
  · exact h
  split
  · split
    · exact h
    · exact h.closeEntry _
  · split
    · exact h
    · split
      · exact h.closeEntry _
      · exact h

theorem attentionMaskRequest (p : Payload) {b : Block} (h : b.steam.Held) :
    (attentionMaskRequest p b).after.steam.Held := by
  unfold Machine.attentionMaskRequest
  split <;> exact h

theorem attentionPeekRequest (p : Payload) {b : Block} (h : b.steam.Held) :
    (attentionPeekRequest p b).after.steam.Held := by
  unfold Machine.attentionPeekRequest
  split <;> exact h

/-! ### The climate and the shares (R8 to R18, R28) -/

theorem climateSetRequest (p : Payload) {b : Block} (h : b.steam.Held) :
    (climateSetRequest p b).after.steam.Held := by
  unfold Machine.climateSetRequest
  split
  · exact h
  split
  · exact h
  split_ifs
  case pos | pos | pos => exact h
  case neg => exact cook.applySetting _ (cook.climate _ h)

theorem clearOvertemp {b : Block} (h : b.steam.Held) : (clearOvertemp b).steam.Held :=
  ite (cook.enterOff
    (b := clearInterlock .overtemp (setClimate { b.climate with overtemp := false } b)) h) h

theorem climateOffRequest (p : Payload) {b : Block} (h : b.steam.Held) :
    (climateOffRequest p b).after.steam.Held := by
  unfold Machine.climateOffRequest
  split
  · exact h
  split
  · split
    · exact h.clearOvertemp
    · exact h
  split
  · exact h
  split
  · exact h
  · exact cook.enterOff h

theorem queueSettings {b : Block} (h : b.steam.Held) : (queueSettings b).steam.Held :=
  (steam_queueWrite (w := .settings b.settings) rfl b).symm ▸ h

theorem budgetSetRequest (p : Payload) {b : Block} (h : b.steam.Held) :
    (budgetSetRequest p b).after.steam.Held := by
  unfold Machine.budgetSetRequest
  split
  · exact h
  · exact queueSettings (b := setSettings _ b) h

theorem settingsWriteRequest (p : Payload) {b : Block} (h : b.steam.Held) :
    (settingsWriteRequest p b).after.steam.Held := by
  unfold Machine.settingsWriteRequest
  split
  · exact h
  split
  · exact h
  next v _ =>
    have hk : (applyKf v.kf b).steam = b.steam := steam_ite _ rfl (steam_queueScale _)
    have hp : (applyPrescale v.prescale (applyKf v.kf b)).steam.Held :=
      steam_ite _ hk ((steam_setChannel _ _ _).trans hk) ▸ h
    exact queueSettings (b := setSettings v _) hp

/-! ### The generator and the procedure (R51, R55, R82 to R99) -/

/-- A GENERATOR DRAIN is taken of a generator that no procedure has. -/
theorem generatorDrainRequest (p : Payload) {b : Block} (h : b.steam.Held) :
    (generatorDrainRequest p b).after.steam.Held := by
  unfold Machine.generatorDrainRequest
  split
  · exact h
  split
  next hs =>
    have hf : b.steam.Free := hs.elim (fun e => h.freeAt e (by decide))
      fun e => h.freeAt e (by decide)
    exact rest (b := setGen { b.gen with serviceDrain := true } b) hf (by decide) (by decide)
  next => exact h

theorem generatorClearRequest (p : Payload) {b : Block} (h : b.steam.Held) :
    (generatorClearRequest p b).after.steam.Held := by
  unfold Machine.generatorClearRequest
  split
  · exact h
  split
  · exact h
  split
  · exact h.clearDryFire
  · exact h

theorem descaleBeginRequest (p : Payload) {b : Block} (h : b.steam.Held) :
    (descaleBeginRequest p b).after.steam.Held := by
  unfold Machine.descaleBeginRequest
  split_ifs
  case neg => exact h.beginDescale
  all_goals exact h

theorem descaleAbortRequest (p : Payload) {b : Block} (h : b.steam.Held) :
    (descaleAbortRequest p b).after.steam.Held := by
  unfold Machine.descaleAbortRequest
  split_ifs
  case neg => exact h.abortDescale
  all_goals exact h

theorem standbyRequest (p : Payload) {b : Block} (h : b.steam.Held) :
    (standbyRequest p b).after.steam.Held := by
  unfold Machine.standbyRequest
  split
  · exact h
  split
  · exact h
  split
  · exact h.enterStandby
  all_goals exact h

/-! ### The recipes, the run, the clock (R102 to R134, R170) -/

theorem slotQueued (n : Fin 16) (v : SlotRec) {b : Block} (h : b.steam.Held) :
    (queueWrite (.slot n v) b).steam.Held := (steam_queueWrite (w := .slot n v) rfl b).symm ▸ h

theorem recipeStoreRequest (p : Payload) {b : Block} (h : b.steam.Held) :
    (recipeStoreRequest p b).after.steam.Held := by
  unfold Machine.recipeStoreRequest
  split
  · exact h
  split
  · exact h
  split
  · exact h
  split
  case h_3 => exact h.slotQueued _ _
  all_goals exact h

/-- A request of a slot does what it does with the slot, or is refused. -/
theorem slotRequest (p : Payload) {k : Fin 16 → Answer} {b : Block} (h : b.steam.Held)
    (hk : ∀ n, (k n).after.steam.Held) : (slotRequest p b k).after.steam.Held := by
  unfold Machine.slotRequest
  split
  · exact h
  split
  · exact h
  split
  · exact h
  · exact hk _

theorem recipeReadRequest (p : Payload) {b : Block} (h : b.steam.Held) :
    (recipeReadRequest p b).after.steam.Held := by
  refine slotRequest p h fun n => ?_
  split <;> exact h

theorem recipeEraseRequest (p : Payload) {b : Block} (h : b.steam.Held) :
    (recipeEraseRequest p b).after.steam.Held := by
  refine slotRequest p h fun n => ?_
  split
  · exact h
  · exact h.slotQueued _ _

theorem runStartRequest (p : Payload) {b : Block} (h : b.steam.Held) :
    (runStartRequest p b).after.steam.Held := by
  have start : ∀ n r f, (startRecipe n r f b).after.steam.Held := fun n r f => by
    unfold startRecipe
    split_ifs
    case neg => exact cook.takeRunStart n r f (fun _ _ h => h) h
    all_goals exact h
  unfold Machine.runStartRequest
  split
  · exact h
  split
  · exact h
  split_ifs
  case neg =>
    split
    case h_4 => exact start _ _ _
    all_goals exact h
  all_goals exact h

theorem runPauseRequest (p : Payload) {b : Block} (h : b.steam.Held) :
    (runPauseRequest p b).after.steam.Held := by
  unfold Machine.runPauseRequest
  split_ifs
  case neg => exact cook.putHold _ h
  all_goals exact h

theorem runResumeRequest (p : Payload) {b : Block} (h : b.steam.Held) :
    (runResumeRequest p b).after.steam.Held := by
  unfold Machine.runResumeRequest
  split
  · exact h
  split
  · exact h
  split
  · exact cook.putHold _ (ite (cook.cleared _ h) h)
  · exact h

theorem runAdvanceRequest (p : Payload) {b : Block} (h : b.steam.Held) :
    (runAdvanceRequest p b).after.steam.Held := by
  unfold Machine.runAdvanceRequest
  split_ifs
  case neg => exact cook.endStep _ h
  all_goals exact h

theorem runAbortRequest (p : Payload) {b : Block} (h : b.steam.Held) :
    (runAbortRequest p b).after.steam.Held := by
  unfold Machine.runAbortRequest
  split_ifs
  case neg => exact cook.endRun _ h
  all_goals exact h

theorem reportTakeRequest (p : Payload) {b : Block} (h : b.steam.Held) :
    (reportTakeRequest p b).after.steam.Held := by
  unfold Machine.reportTakeRequest
  split
  · exact h
  · split <;> exact h

theorem reportClearRequest (p : Payload) {b : Block} (h : b.steam.Held) :
    (reportClearRequest p b).after.steam.Held := by
  unfold Machine.reportClearRequest
  split <;> exact h

theorem clockSetRequest (p : Payload) {b : Block} (h : b.steam.Held) :
    (clockSetRequest p b).after.steam.Held := by
  unfold Machine.clockSetRequest
  split_ifs
  case neg => exact startIfDue (cook.cleared _ (b := setClock _ b) h)
  all_goals exact h

/-! ### Every KIND -/

/-- One check of a handler. -/
theorem checked {c : Prop} {i : Decidable c} {x y : Answer} (hx : x.after.steam.Held)
    (hy : y.after.steam.Held) : (if c then x else y).after.steam.Held := by
  split <;> assumption

theorem handlerOf (kind : Byte) (p : Payload) (b : Block) (h : b.steam.Held) :
    (handlerOf kind p b).after.steam.Held := by
  refine handlerOf_ind (Q := fun f => (f b).after.steam.Held) kind p ?_ h
  simp only [catalogue, List.forall_mem_cons, List.not_mem_nil, false_imp_iff, implies_true,
    and_true]
  exact ⟨checked h h, checked h h, checked h h, h.standbyRequest p, h.climateSetRequest p,
    h.climateOffRequest p, h.budgetSetRequest p, h.generatorDrainRequest p,
    h.generatorClearRequest p, h.descaleBeginRequest p, h.descaleAbortRequest p,
    h.recipeStoreRequest p, h.recipeReadRequest p, h.recipeEraseRequest p, checked h (checked h h),
    h.runStartRequest p, h.runPauseRequest p, h.runResumeRequest p, h.runAdvanceRequest p,
    h.runAbortRequest p, h.attentionPeekRequest p, h.attentionTakeRequest p,
    h.attentionCloseRequest p, h.attentionMaskRequest p, h.reportTakeRequest p,
    h.reportClearRequest p, h.clockSetRequest p, checked h h, h.settingsWriteRequest p,
    checked h h⟩

end Steam.Held
end Sys2Proof.Machine
end

section
/-! SUPPORT. Starts, flushes and the store keep the steam lock (R61, R97, R173 to R181). -/

namespace Sys2Proof.Machine

/-! ### A part that is not at work -/

/-- Every descale record is sound: the procedure's, the retained one, and those to be written. -/
structure Steam.Recorded (x : Steam) : Prop extends x.StoreSound where
  record : x.kept.Sound

theorem SteamSafe.recorded {b : Block} (h : SteamSafe b) : b.steam.Recorded :=
  { h.storeSound with record := h.record }

theorem Steam.Held.recorded {x : Steam} (h : x.Held) : x.Recorded :=
  { h.toStoreSound with record := h.record }

theorem Steam.Recorded.safe {b : Block} (h : b.steam.Recorded) (hl : live b = false) :
    SteamSafe b := h.toStoreSound.safe h.record hl

namespace Steam.Recorded

theorem served {b : Block} (h : b.steam.Recorded) : (serveStore b).steam.Recorded :=
  { h.toStoreSound.served with
    record := by rw [serveStore_frame]; exact h.record }

theorem committed {b : Block} (h : b.steam.Recorded) {w : Write} (hw : b.store.inFlight = some w) :
    (setStore { b.store.commit w with inFlight := none } b).steam.Recorded :=
  { h.toStoreSound.committed hw with record := h.record }

theorem shutDown (r : EndReason) {b : Block} (h : b.steam.Recorded) :
    (shutDown r b).steam.Recorded := by
  unfold Machine.shutDown
  rw [steam_settleEnded, steam_endAllTransfers]
  exact { retained := h.retained, writes := h.writes, record := h.record }

end Steam.Recorded

/-! ### A start (R61, R97, R173, R178) -/

namespace Steam.StoreSound

theorem readAtStart {b : Block} (h : b.steam.StoreSound) (v : Straps) (failed : List RecordName) :
    (b.store.readAtStart v failed).descale.Sound := by
  change (if failed.contains .descale then DescaleRec.initial else b.store.descale).Sound
  split
  · exact fun _ => rfl
  · exact h.retained

/-- The records as read at a start, with no write pending. -/
theorem rebuilt (cause : StartCause) (v : Straps) (pins : StrapPins) (x : StartInputs)
    {b : Block} (h : b.steam.StoreSound) :
    (rebuild cause v pins x (b.store.readAtStart v x.failed) b).steam.Recorded where
  retained := h.readAtStart v x.failed
  writes _ hk := absurd hk List.not_mem_nil
  record := h.readAtStart v x.failed

end Steam.StoreSound

theorem steam_clampStartBudget (b : Block) : (clampStartBudget b).steam = b.steam :=
  steam_ite _ rfl (steam_queueWrite rfl _)

theorem steam_clampStartRemainder (b : Block) : (clampStartRemainder b).steam = b.steam :=
  steam_ite _ rfl (steam_queueScale _)

/-- A retained procedure has the generator from the start on; without one the generator rests. -/
theorem Steam.Recorded.placed {b : Block} (h : b.steam.Recorded) (hs : ¬ b.steam.Serves) :
    (placeDescale b).steam.Held := by
  unfold placeDescale
  split
  next hd =>
    exact Steam.Taken.held
      { h.toStoreSound with phase := of_decide_eq_true hd, has := .inl rfl }
  next hd =>
    have hf : b.steam.Free :=
      { h.toStoreSound with kept := h.record (by_contra fun hp => hd (decide_eq_true hp)) }
    exact hf.rests hs

theorem steam_restartSilence (b : Block) : (restartSilence b).steam = b.steam := rfl

namespace Steam.Held

theorem linked (x : Link) {b : Block} (h : b.steam.Held) : (setLink x b).steam.Held := h

theorem examineCheckpoint {b : Block} (h : b.steam.Held) : (examineCheckpoint b).steam.Held := by
  unfold Machine.examineCheckpoint
  split
  · exact h
  next k _ =>
    split
    next =>
      have hr : (if k.running then pushReport (lostReport k) b else b).steam.Held :=
        ite (cook.reports _ h) h
      exact cook.checkpoint none (hr.raised _ _)
    next => exact cook.climate _ (cook.checkpoint _ (cook.run _ h))
    next => exact cook.climate _ (cook.checkpoint _ (raised _ _ (cook.run _ h)))

end Steam.Held

/-- What a start does with the records it has read (R27, R61, R97, R137). -/
theorem Steam.Recorded.begun {b : Block} (h : b.steam.Recorded) (hs : ¬ b.steam.Serves) :
    (examineCheckpoint (followCondition .clockInvalid
      (!(placeDescale (clampStartRemainder (clampStartBudget b))).clock.valid)
      (followScale (placeDescale (clampStartRemainder (clampStartBudget b)))))).steam.Held := by
  have e : (clampStartRemainder (clampStartBudget b)).steam = b.steam := by
    rw [steam_clampStartRemainder, steam_clampStartBudget]
  have hp := Steam.Recorded.placed (e ▸ h) (e ▸ hs)
  exact (hp.followScale.followCondition _ _).examineCheckpoint

theorem Steam.StoreSound.started (cause : StartCause) (v : Straps) (pins : StrapPins)
    (x : StartInputs) {b : Block} (h : b.steam.StoreSound) :
    (startUp cause v pins x b).steam.Held := by
  have hs : ¬ (rebuild cause v pins x (b.store.readAtStart v x.failed) b).steam.Serves := fun hs =>
    hs.elim (fun e => GenState.noConfusion e) fun e => GenState.noConfusion e
  rw [startUp, steam_restartSilence]
  exact (h.rebuilt cause v pins x).begun hs

/-! ### The end of an event, the flush, the life record (R174, R175) -/

theorem Steam.Recorded.queued {b : Block} (h : b.steam.Recorded) :
    (queueWrite (.descale b.descale.kept) b).steam.Recorded :=
  { h.toStoreSound.queued fun k e => by cases e; exact h.record with record := h.record }

theorem Steam.Recorded.finishEvent (a : Block) {b : Block} (h : b.steam.Recorded) :
    (finishEvent a b).steam.Recorded :=
  finishEvent_closed (P := fun c => c.steam.Recorded) a
    (fun _ {b} h => (steam_followCondition _ _ b).symm ▸ h) (fun h => h.queued) (fun _ _ h => h)
    (fun h => h) (fun {b} h => (steam_enterStandby b).symm ▸ h) (fun h => h.served) h

theorem live_lost {b : Block} (h : b.life.mainsLost = true) : live b = false := by
  simp [live, h]

theorem live_reset {b : Block} (h : b.life.resetLine = true) : live b = false := by
  simp [live, h]

theorem live_flush {b : Block} (h : b.life.flush ≠ .none) : live b = false := by
  simp [live, h]

theorem live_serveStore (b : Block) : live (serveStore b) = live b := by
  unfold live
  rw [serveStore_life]

theorem live_enterStandby (b : Block) : live (enterStandby b) = live b := by
  rw [enterStandby_eq]
  rfl

theorem live_finishEvent (a b : Block) : live (finishEvent a b) = live b :=
  finishEvent_closed (P := fun c => live c = live b) a
    (fun _ _ h => Closed.ite (P := fun c => live c = live b) h h) (fun h => h) (fun _ _ h => h)
    (fun h => h) (fun h => (live_enterStandby _).trans h) (fun h => (live_serveStore _).trans h) rfl

/-! ### The events of a part at work, or not -/

namespace SteamSafe

theorem event {f : Block → Block} (hf : ∀ b, b.steam.Held → (f b).steam.Held) {b : Block}
    (h : SteamSafe b) : SteamSafe (event f b) := by
  unfold Machine.event
  split
  next hl => exact ((hf b (h.held hl)).finishEvent b).safe
  next => exact h

/-- What a receiving part does at a byte, a line fault or the clock. -/
theorem received {b c : Block} (h : SteamSafe b) (hc : b.steam.Held → c.steam.Held) :
    SteamSafe (if receiving b then c else b) := by
  split
  next hr => exact (hc (h.held (Bool.and_eq_true_iff.mp hr).1)).safe
  next => exact h

theorem request (kind : Byte) {handler : Block → Answer}
    (hh : ∀ b, b.steam.Held → (handler b).after.steam.Held) {b : Block} (h : SteamSafe b) :
    SteamSafe (request kind handler b) := by
  by_cases hr : receiving b = true
  · exact ((h.held (Bool.and_eq_true_iff.mp hr).1).request kind hh).safe
  · have e : Machine.request kind handler b = b := if_pos (by simpa using hr)
    rwa [e]

theorem started (cause : StartCause) (v : Straps) (pins : StrapPins) (x : StartInputs) {b : Block}
    (h : SteamSafe b) : SteamSafe (startUp cause v pins x b) :=
  (h.storeSound.started cause v pins x).safe

/-! ### The link and the clock (R170, R186 to R194) -/

theorem frameDropped {b : Block} (h : SteamSafe b) : SteamSafe (frameDropped b) :=
  h.received fun h => Steam.Held.finishEvent b (b := dropFrame (Machine.wake .link b)) (h.wake .link)

theorem steam_dropInProgress (b : Block) : (dropInProgress b).steam = b.steam :=
  steam_ite _ rfl rfl

theorem lineDrop {b : Block} (h : SteamSafe b) : SteamSafe (lineDrop b) :=
  h.received fun h => Steam.Held.finishEvent b ((steam_dropInProgress b).symm ▸ h)

theorem badStopByte {b : Block} (h : SteamSafe b) : SteamSafe (badStopByte b) := by
  by_cases hr : receiving b = true
  · have hb := h.held (Bool.and_eq_true_iff.mp hr).1
    have e : Machine.badStopByte b = if b.life.power = .standby then
        Machine.finishEvent b (setLink (Machine.wake .link b).link.hunting (Machine.wake .link b))
        else Machine.finishEvent b (dropInProgress b) := if_neg (by simp [hr])
    rw [e]
    exact (Steam.Held.ite
      ((hb.wake .link).linked _ |>.finishEvent b)
      (Steam.Held.finishEvent b ((steam_dropInProgress b).symm ▸ hb))).safe
  · have e : Machine.badStopByte b = b := if_pos (by simpa using hr)
    rwa [e]

theorem steam_otherByte (x : Byte) (b : Block) : (otherByte x b).steam = b.steam := by
  unfold otherByte
  split
  · rfl
  · exact steam_ite _ rfl rfl
  · rfl
  · split <;> rfl

theorem lineByte (x : Byte) {b : Block} (h : SteamSafe b) : SteamSafe (lineByte x b) := by
  by_cases hr : receiving b = true
  · have hb := h.held (Bool.and_eq_true_iff.mp hr).1
    unfold Machine.lineByte
    rw [if_neg (by simp [hr])]
    split
    · exact ((hb.wake .link).linked _ |>.finishEvent b).safe
    · split
      · exact h.request _ (fun b => Steam.Held.handlerOf _ _ b)
      · exact (Steam.Held.finishEvent b ((steam_otherByte x b).symm ▸ hb)).safe
  · have e : Machine.lineByte x b = b := if_pos (by simpa using hr)
    rwa [e]

theorem clockAdvance {b : Block} (h : SteamSafe b) : SteamSafe (clockAdvance b) :=
  received (b := advanceClock b) (c := Machine.finishEvent (advanceClock b) _)
    ⟨h.cold, h.taken, h.record, h.retained, h.writes⟩
    fun h => Steam.Held.finishEvent _ (Steam.Held.startIfDue h)

theorem silenceEnd {b : Block} (h : SteamSafe b) : SteamSafe (silenceEnd b) := by
  unfold Machine.silenceEnd
  split
  next hl =>
    have hb := h.held (Bool.and_eq_true_iff.mp hl).1
    have hf : (finishEvent b (giveUp b)).steam.Held :=
      Steam.Held.finishEvent b (Steam.Held.cook.giveUp hb)
    exact Steam.Held.safe (b := setSilence _ _) hf
  next => exact h

/-- A part that shuts down is at work no more. -/
theorem stopped {r : EndReason} {b c : Block} (h : SteamSafe b) (hc : c.steam = (shutDown r b).steam)
    (hl : live c = false) : SteamSafe c :=
  Steam.Recorded.safe (hc ▸ h.recorded.shutDown r) hl

theorem beginRestart {b : Block} (h : SteamSafe b) : SteamSafe (beginRestart b) :=
  h.stopped (r := .stopped) rfl (by simp [Machine.beginRestart, live])

/-- The end of an event of a part that may have stopped its work. -/
theorem finishEvent (a : Block) {b : Block} (h : SteamSafe b) : SteamSafe (finishEvent a b) := by
  by_cases hl : live b = true
  · exact ((h.held hl).finishEvent a).safe
  · exact (h.recorded.finishEvent a).safe ((live_finishEvent a b).trans (by simpa using hl))

theorem replySent {b : Block} (h : SteamSafe b) : SteamSafe (replySent b) := by
  have hl : SteamSafe (setLink b.link.sent b) := ⟨h.cold, h.taken, h.record, h.retained, h.writes⟩
  unfold Machine.replySent
  split
  · extract_lets again c
    split
    · exact hl.beginRestart
    · exact hl
  · exact h

theorem replySentEvent {b : Block} (h : SteamSafe b) :
    SteamSafe (Machine.event Machine.replySent b) := by
  unfold Machine.event
  split
  · exact h.replySent.finishEvent b
  · exact h

/-! ### The supply, the RESET line, the store (R174, R175, R181) -/

/-- The life record of a part that is not at work bears on the lock by its being so. -/
theorem lived {b : Block} (h : SteamSafe b) (x : Life) (hl : live (setLife x b) = false) :
    SteamSafe (setLife x b) := Steam.Recorded.safe (b := setLife x b) h.recorded hl

theorem steam_stopLink (b : Block) : (stopLink b).steam = b.steam := rfl

theorem steam_stopTimers (b : Block) : (stopTimers b).steam = b.steam := rfl

/-- A part that shuts down and begins its flush. -/
theorem flushed {r : EndReason} {b c : Block} (h : SteamSafe b) (x : Life)
    (hc : c.steam = (shutDown r b).steam) (hl : live (setLife x c) = false) :
    SteamSafe (serveStore (setLife x c)) := by
  have hx : (setLife x c).steam.Recorded := hc ▸ h.recorded.shutDown r
  exact hx.served.safe ((live_serveStore _).trans hl)

theorem loseMains {b : Block} (h : SteamSafe b) : SteamSafe (loseMains b) := by
  unfold Machine.loseMains
  split
  · exact h
  split
  · exact h.lived _ (live_lost rfl)
  · exact h.flushed _ ((steam_stopTimers _).trans (steam_stopLink _)) (live_lost rfl)

theorem beginReset {b : Block} (h : SteamSafe b) : SteamSafe (beginReset b) :=
  h.flushed _ (steam_stopLink _) (live_reset rfl)

theorem assertReset {b : Block} (h : SteamSafe b) : SteamSafe (assertReset b) := by
  unfold Machine.assertReset
  split
  · exact h
  split
  · exact h.lived _ (live_reset rfl)
  split
  · exact h.lived _ (live_reset rfl)
  · exact h.beginReset

theorem coldStart (x : ColdInputs) {b : Block} (h : SteamSafe b) : SteamSafe (coldStart x b) :=
  h.started _ _ _ _

theorem coldStartOrWait (x : ColdInputs) {b : Block} (h : SteamSafe b) :
    SteamSafe (coldStartOrWait x b) := by
  unfold Machine.coldStartOrWait
  split
  next hr => exact h.lived _ (live_reset hr)
  next => exact h.coldStart x

theorem zeroCrossing {b : Block} (h : SteamSafe b) : SteamSafe (zeroCrossing b) := by
  unfold Machine.zeroCrossing crossingStart
  split
  · split
    · split
      · exact h
      · exact h.coldStartOrWait _
    · exact h
  · exact h.event (f := halfCycle) fun _ h => h

theorem supplyUp (x : ColdInputs) {b : Block} (h : SteamSafe b) : SteamSafe (supplyUp x b) := by
  unfold Machine.supplyUp
  split
  · exact h
  · exact h.coldStartOrWait x

theorem restartStart (x : StartInputs) {b : Block} (h : SteamSafe b) :
    SteamSafe (restartStart x b) := by
  unfold Machine.restartStart
  split
  · exact h.started _ _ _ _
  · exact h

/-- A part under the RESET line flushes, and does so when the line is released (R181). -/
theorem releaseReset (x : StartInputs) {b : Block} (h : SteamSafe b) (hl : LifeSound b) :
    SteamSafe (releaseReset x b) := by
  unfold Machine.releaseReset
  split
  · exact h
  next hr =>
    have hw : b.life.flush.writesNote = true := hl.held (.inr (by simpa using hr))
    have hf : b.life.flush ≠ .none := fun e => by rw [e] at hw; cases hw
    extract_lets _ c
    have hc : SteamSafe c := h.lived _ (live_flush hf)
    split
    · exact hc.coldStart _
    split
    · exact hc
    split
    · exact hc.started _ _ _ _
    · exact hc.lived _ (live_flush hf)

/-- A part whose START NOTE is in flight flushes (R175). -/
theorem writeComplete {b : Block} (h : SteamSafe b) (hl : LifeSound b) :
    SteamSafe (writeComplete b) := by
  unfold Machine.writeComplete
  split
  · exact h
  next w hw =>
    extract_lets _ c
    have hc : SteamSafe c := by
      by_cases hv : live b = true
      · exact ((h.held hv).stored (h.storeSound.committed hw)).safe
      · exact (h.recorded.committed hw).safe (Bool.not_eq_true _ ▸ hv : live b = false)
    split
    next hn =>
      have hnote : b.life.flush.writesNote = true := hl.noted (by
        cases w <;> cases hn
        exact (congrArg (Option.map Write.record) hw).trans rfl)
      have hf : b.life.flush ≠ .none := fun e => by rw [e] at hnote; cases hnote
      have hs : SteamSafe (setLife { c.life with note := .written } c) :=
        hc.lived _ (live_flush hf)
      unfold startIfReleased
      split
      · split
        · exact hs
        · exact hs.started _ _ _ _
      · exact hs
    next =>
      by_cases hv : live c = true
      · exact ((hc.held hv).served).safe
      · exact hc.recorded.served.safe ((live_serveStore c).trans (by simpa using hv))

/-! ### Quiet time, and the raw level of an input -/

theorem steam_quietMillisecond (b : Block) : (quietMillisecond b).steam = b.steam := by
  unfold quietMillisecond
  split
  · have hk : b.descale.elapse.kept = b.descale.kept := by
      unfold Descale.elapse
      split <;> rfl
    simp only [Block.steam, hk]
    rfl
  · rfl

theorem quiet {b : Block} (h : SteamSafe b) : SteamSafe (quietMillisecond b) := by
  have hs := steam_quietMillisecond b
  by_cases hl : live b = true
  · exact Steam.Held.safe (hs ▸ h.held hl)
  · have e : quietMillisecond b = b := if_neg hl
    rwa [e]

theorem rawChange (i : SwitchInput) (v : Bool) {b : Block} (h : SteamSafe b) :
    SteamSafe (rawChange i v b) := by
  unfold Machine.rawChange
  extract_lets x
  split
  · exact h
  · exact ⟨h.cold, h.taken, h.record, h.retained, h.writes⟩

end SteamSafe
end Sys2Proof.Machine
end

section
/-! SUPPORT. Every command and every step keep the steam lock (R62). -/

namespace Sys2Proof.Machine

/-! ### The events left of a part at work -/

namespace Steam.Held

theorem flowEdge (e : FlowEdge) {b : Block} (h : b.steam.Held) : (flowEdge e b).steam.Held :=
  ite ((steam_setChannel .fill _ b).symm ▸ h) h

theorem flapEnd {b : Block} (h : b.steam.Held) : (flapEnd b).steam.Held := by
  unfold Machine.flapEnd
  split
  · split <;> exact h
  · exact h

theorem windowExpiry {b : Block} (h : b.steam.Held) : (windowExpiry b).steam.Held := ite h h

theorem silenceMark {b : Block} (h : b.steam.Held) : (silenceMark b).steam.Held :=
  ite (cook.addSilent (b := setSilence _ b) h) h

theorem disagreementEnd {b : Block} (h : b.steam.Held) : (disagreementEnd b).steam.Held :=
  ite (a := raiseSource .door _) h h

theorem probeUnplugged {b : Block} (h : b.steam.Held) : (probeUnplugged b).steam.Held := h.wake _

theorem startProbes {b : Block} (h : b.steam.Held) :
    (startProbes (Machine.wake .probe b)).steam.Held :=
  h.wake _

theorem electrodeSettled {b : Block} (h : b.steam.Held) : (electrodeSettled b).steam.Held :=
  followInterlock .dryLevel _ (b := setGen { b.gen with level := derivedLevel b.switches } b) h

end Steam.Held

/-! ### Every command -/

theorem SteamSafe.exec {c : Instr} {s t : State} (he : exec c s = .next t) (hs : SteamSafe s.toBlock)
    (hl : LifeSound s.toBlock) : SteamSafe t.toBlock := by
  have block : ∀ {f : Block → Block}, Machine.exec c s = onBlock f s → SteamSafe (f s.toBlock) →
      SteamSafe t.toBlock := fun e h => Steady.onBlock_next (e.symm.trans he) ▸ h
  have event : ∀ {f : Block → Block}, Machine.exec c s = onBlock (Machine.event f) s →
      (∀ b, b.steam.Held → (f b).steam.Held) → SteamSafe t.toBlock := fun e h =>
    block e (hs.event h)
  cases hf : requestFrame c with
  | some x =>
    obtain ⟨k, p⟩ := x
    rcases Steady.exec_request hf s with e | e | e
    · exact block e (hs.request _ (Steam.Held.handlerOf _ _))
    · exact block e (hs.request _ fun _ h => h)
    · exact block e hs
  | none =>
    cases c with
    | frameCheckFailed => exact block rfl hs.frameDropped
    | lenOutOfRange => exact block rfl hs.frameDropped
    | frameDroppedReplyOwed => exact block rfl (Closed.ite hs.frameDropped hs)
    | replySent => exact block rfl hs.replySentEvent
    | interbyteGapTimeout => exact block rfl hs.lineDrop
    | lineBreak => exact block rfl hs.lineDrop
    | badStopBit => exact block rfl hs.badStopByte
    | standbyByteReceived x => exact block rfl (hs.lineByte x)
    | byteReceived x => exact block rfl (hs.lineByte x)
    | silence5s => exact event rfl fun _ => Steam.Held.silenceMark
    | silence120s => exact block rfl hs.silenceEnd
    | controlPeriodExpiry => exact event rfl fun _ => Steam.Held.cook.controlExpiry
    | flapTravelEnd => exact event rfl fun _ => Steam.Held.flapEnd
    | allocationWindowExpiry => exact event rfl fun _ => Steam.Held.windowExpiry
    | zeroCrossing => exact block rfl hs.zeroCrossing
    | mainsLoss => exact block rfl hs.loseMains
    | samplingExpiry x => exact event rfl fun _ => Steam.Held.sampling x
    | switchRawChange i v => exact block rfl (hs.rawChange i v)
    | doorContactChange c v =>
      exact event rfl fun _ => Steam.Held.debounced _ _ (fun _ => Steam.Held.contactSettled)
        fun _ => Steam.Held.contactChange _
    | doorDisagreementTimeout => exact event rfl fun _ => Steam.Held.disagreementEnd
    | tankInsertion =>
      exact event rfl fun _ => Steam.Held.debounced _ _ (fun _ h => h)
        fun _ => Steam.Held.tankInserted
    | tankRemoval =>
      exact event rfl fun _ => Steam.Held.debounced _ _ (fun _ h => h)
        fun _ => Steam.Held.tankRemoved
    | plugIn =>
      exact event rfl fun _ => Steam.Held.debounced _ _ (fun _ h => h)
        fun _ => Steam.Held.startProbes
    | unplug =>
      exact event rfl fun _ => Steam.Held.debounced _ _ (fun _ h => h)
        fun _ => Steam.Held.probeUnplugged
    | electrodeChange e v =>
      exact event rfl fun _ => Steam.Held.debounced _ _ (fun _ => Steam.Held.electrodeSettled)
        fun _ => Steam.Held.electrodeChanged
    | pacingExpiry c => exact event rfl fun _ => Steam.Held.pacing c
    | flowEdge e => exact event rfl fun _ => Steam.Held.flowEdge e
    | pauseTimeout c => exact event rfl fun _ => Steam.Held.pauseTimeout c
    | soakTimerExpiry => exact event rfl fun _ => Steam.Held.soakExpiry
    | rinseHoldExpiry => exact event rfl fun _ => Steam.Held.rinseHoldEnd
    | stepTimerExpiry => exact event rfl fun _ => Steam.Held.cook.stepExpiry
    | clockAdvance => exact block rfl hs.clockAdvance
    | retainedWriteComplete => exact block rfl (hs.writeComplete hl)
    | coldStart x => exact block rfl (hs.supplyUp x)
    | restartRequestStart x => exact block rfl (hs.restartStart x)
    | resetLineAssert => exact block rfl hs.assertReset
    | resetLineRelease x => exact block rfl (hs.releaseReset x hl)
    | _ => simp [requestFrame] at hf

/-- Settles O8: each command keeps the invariant of a part at work, in which a procedure in progress
has the generator; a part that flushes keeps its records, and a start finds them. -/
theorem steamStaysLocked : Obligations.SteamStaysLocked := by
  intro s t hl hs he
  unfold step at he
  split at he
  · exact SteamSafe.exec he hs hl
  · cases he
    exact hs.quiet

end Sys2Proof.Machine
end

section
/-! SUPPORT. The scale account keeps every remainder (R59). -/

namespace Sys2Proof.Machine

/-- A remainder taken as a difference is what the division leaves. -/
theorem sub_div_mul (x k : Nat) : x - x / k * k = x % k := by
  rw [Nat.div_mul_self_eq_mod_sub_self, Nat.sub_sub_self (Nat.mod_le x k)]

/-- Settles O32: both remainders are those of the account's two divisions. -/
theorem fillAccountLosesNothing : Obligations.FillAccountLosesNothing := by
  intro v pulses a hk w mg
  have hrw : (a.addFill v pulses).rw = (pulses * 1000 + a.rw) % v.kf := sub_div_mul _ _
  have hrs : (a.addFill v pulses).rs = (w * v.hardness + a.rs) % 1000 := sub_div_mul _ _
  rw [hrw, hrs]
  exact ⟨Nat.div_add_mod' _ _, Nat.mod_lt _ hk, Nat.div_add_mod' _ _,
    Nat.mod_lt _ (by decide), rfl⟩

end Sys2Proof.Machine
end

section
/-! SUPPORT. What stands at the end of an event: entries, writes, rows (R82, R142, R174, R182). -/

namespace Sys2Proof.Machine

/-! ### The entries (R142, R143) -/

theorem Attn.has_raise (a : Attn) (k j : AttnKind) (d : Detail) (t : Option ClockTime)
    (su : Bool) : (a.raise k d t su).has j = true ↔ j = k ∨ a.has j = true := by
  unfold Attn.raise
  split
  next h =>
    have hm : ∀ f : Entry → Entry, (∀ e, (f e).kind = e.kind) →
        (({ a with entries := a.entries.map f } : Attn).has j = true ↔ a.has j = true) := by
      intro f hf
      simp [Attn.has_iff, List.map_map, Function.comp_def, hf]
    rw [hm _ fun e => by split <;> rfl]
    exact ⟨.inr, fun hj => hj.elim (fun e => e ▸ h) id⟩
  next =>
    split
    · rw [Attn.has_iff, Attn.has_iff, ((insertByCode_perm _ _).map Entry.kind).mem_iff]
      exact List.mem_cons
    · rw [Attn.has_iff, Attn.has_iff, (List.perm_append_comm.map Entry.kind).mem_iff]
      exact List.mem_cons

theorem Attn.has_remove (a : Attn) (k j : AttnKind) :
    (a.remove k).has j = true ↔ j ≠ k ∧ a.has j = true := by
  simp only [Attn.has_iff, Attn.remove, List.mem_map, List.mem_filter, decide_eq_true_eq]
  constructor
  · rintro ⟨e, ⟨he, hk⟩, rfl⟩
    exact ⟨hk, e, he, rfl⟩
  · rintro ⟨hj, e, he, rfl⟩
    exact ⟨e, ⟨he, hj⟩, rfl⟩

theorem has_raiseAttn (k j : AttnKind) (d : Detail) (b : Block) :
    (raiseAttn k d b).attn.has j = true ↔ j = k ∨ b.attn.has j = true := Attn.has_raise _ _ _ _ _ _

theorem has_clearAttn (k j : AttnKind) (b : Block) :
    (clearAttn k b).attn.has j = true ↔ j ≠ k ∧ b.attn.has j = true := Attn.has_remove _ _ _

/-- A condition that is followed bears on its own entry alone. -/
theorem has_followCondition {k j : AttnKind} (h : j ≠ k) (v : Bool) (b : Block) :
    (followCondition k v b).attn.has j = b.attn.has j := by
  rw [Bool.eq_iff_iff]
  unfold followCondition
  split
  · rw [has_raiseAttn]
    exact or_iff_right h
  · rw [has_clearAttn]
    exact and_iff_right h

/-! ### A write that waits (R82, R174) -/

/-- The write waits as the first of its record, or is in flight. -/
def Store.Awaits (w : Write) (r : Store) : Prop :=
  r.inFlight = some w ∨ r.queue.find? (fun x => decide (x.record = w.record)) = some w

theorem Store.Awaits.mem {w : Write} {r : Store} (h : r.Awaits w) :
    w ∈ r.inFlight.toList ++ r.queue := by
  rcases h with h | h
  · simp [h]
  · exact List.mem_append_right _ (List.mem_of_find?_eq_some h)

theorem find_enqueue_self (w : Write) (q : List Write) :
    (enqueue w q).find? (fun x => decide (x.record = w.record)) = some w := by
  induction q with
  | nil => simp [enqueue]
  | cons y ys ih =>
    unfold enqueue
    split
    next h => simp
    next h => simpa [List.find?_cons, h] using ih

theorem find_enqueue_other {w v : Write} (h : v.record ≠ w.record) (q : List Write) :
    (enqueue v q).find? (fun x => decide (x.record = w.record)) =
      q.find? (fun x => decide (x.record = w.record)) := by
  induction q with
  | nil => simp [enqueue, h]
  | cons y ys ih =>
    unfold enqueue
    split
    next e => simp [h, e]
    next => simp only [List.find?_cons, ih]

theorem awaits_queueWrite (w : Write) (b : Block) : (queueWrite w b).store.Awaits w :=
  .inr (find_enqueue_self w _)

/-- A write of another record leaves it waiting, and so does the same write again. -/
theorem Store.Awaits.queued {w v : Write} {b : Block} (h : b.store.Awaits w)
    (hv : v.record = w.record → v = w) : (queueWrite v b).store.Awaits w := by
  by_cases hr : v.record = w.record
  · exact hv hr ▸ awaits_queueWrite v b
  · exact h.imp id fun e => (find_enqueue_other hr _).trans e

/-- The first write that a test finds is the first of its record, where the test reads the record. -/
theorem find_first {p : RecordName → Bool} {q : List Write} {w v : Write}
    (hv : q.find? (fun x => p x.record) = some v)
    (hw : q.find? (fun x => decide (x.record = w.record)) = some w) (hr : v.record = w.record) :
    v = w := by
  induction q with
  | nil => cases hv
  | cons y ys ih =>
    have hp : p v.record = true := by simpa using List.find?_some hv
    by_cases hy : y.record = w.record
    · have ey : y = w := by simpa [hy] using hw
      have ev : y = v := by simpa [hy, ← hr, hp] using hv
      exact ev.symm.trans ey
    · have hw' : ys.find? (fun x => decide (x.record = w.record)) = some w := by
        simpa [List.find?_cons, hy] using hw
      rw [List.find?_cons] at hv
      split at hv
      · cases hv
        exact absurd hr hy
      · exact ih hv hw'

theorem nextWrite_first {allowed : RecordName → Bool} {q : List Write} {w v : Write}
    (hn : nextWrite allowed q = some v)
    (hw : q.find? (fun x => decide (x.record = w.record)) = some w) (hr : v.record = w.record) :
    v = w := by
  obtain ⟨c, -, hc⟩ := List.exists_of_findSome?_eq_some hn
  exact find_first (p := fun r => decide (serviceClass r = c) && allowed r) hc hw hr

/-- A service takes the write that waits into flight, or another record's, or none. -/
theorem Store.Awaits.served {w : Write} {b : Block} (h : b.store.Awaits w) :
    (serveStore b).store.Awaits w := by
  unfold serveStore
  split
  · exact h
  next hf =>
    have hq := h.resolve_left fun e => hf (by rw [e]; rfl)
    split
    · exact h
    split
    next v hv =>
      by_cases hr : v.record = w.record
      · exact .inl (congrArg some (nextWrite_first hv hq hr))
      · refine .inr ((List.find?_filter ..).trans (Eq.trans ?_ hq))
        refine congrArg (fun p => List.find? p b.store.queue) (funext fun x => ?_)
        by_cases hx : x.record = w.record
        · simp [hx, Ne.symm hr]
        · simp [hx]
    next =>
      split
      · exact .inr hq
      · exact h

/-- The end of an event leaves a write waiting: the records it writes are those that stand. -/
theorem Store.Awaits.finished (a : Block) {w : Write} {b : Block} (h : b.store.Awaits w)
    (hd : w.record = .descale → w = .descale b.descale.kept)
    (hs : w.record = .scale → w = .scale b.gen.account) : (finishEvent a b).store.Awaits w := by
  have hq : ∀ {v : Write} {c : Block}, (v.record = w.record → v = w) → c.store.Awaits w →
      (queueWrite v c).store.Awaits w := fun hv h => h.queued hv
  refine (finishEvent_closed
    (P := fun c => c.store.Awaits w ∧ c.descale = b.descale ∧ c.gen = b.gen) a
    (fun _ _ h => Closed.ite (P := fun c => c.store.Awaits w ∧ c.descale = b.descale ∧
      c.gen = b.gen) h h) ?_ (fun _ _ h => h) (fun h => h) ?_ ?_ ⟨h, rfl, rfl⟩).1
  · rintro c ⟨hc, hk, hg⟩
    exact ⟨hc.queued fun e => by rw [hd e.symm, hk], hk, hg⟩
  · rintro c ⟨hc, hk, hg⟩
    rw [enterStandby_eq]
    exact ⟨hq (v := .scale c.gen.account) (fun e => by rw [hs e.symm, hg]) hc, hk, hg⟩
  · rintro c ⟨hc, hk, hg⟩
    have hr := serveStore_rest c
    exact ⟨hc.served, hr.2.2.2.2.2.1.trans hk, hr.2.2.1.trans hg⟩

/-! ### What the end of an event keeps -/

/-- The part as its standby request is examined. -/
def beforeStandby (a b : Block) : Block :=
  examineSilence a (examineDescaleWrite a (examineDoorOpen a b))

theorem finishEvent_eq (a b : Block) :
    finishEvent a b = examineStore a (examineStandby a (beforeStandby a b)) := rfl

theorem beforeStandby_eq (a b : Block) : beforeStandby a b =
    { b with
      attn := (beforeStandby a b).attn, store := (beforeStandby a b).store
      silence := (beforeStandby a b).silence } := by
  unfold beforeStandby examineSilence examineDescaleWrite examineDoorOpen followCondition
  split_ifs <;> rfl

theorem beforeStandby_allowed (a b : Block) :
    standbyAllowed (beforeStandby a b) = standbyAllowed b := by
  rw [beforeStandby_eq]
  rfl

theorem examineStore_power (a b : Block) : (examineStore a b).life.power = b.life.power := by
  unfold examineStore
  split
  · rfl
  · rw [serveStore_life]

theorem finishEvent_power (a b : Block) :
    (finishEvent a b).life.power = (examineStandby a (beforeStandby a b)).life.power :=
  examineStore_power _ _

/-- A waiting standby request is withdrawn where its conditions are lost. -/
theorem finishEvent_withdrawn {a b : Block} (ha : standbyAllowed a = true)
    (hb : standbyAllowed b = false) (hp : b.life.power ≠ .standby) :
    (finishEvent a b).life.power = .awake := by
  have hl : (beforeStandby a b).life = b.life := by rw [beforeStandby_eq]
  have hw : (standbyAllowed a && !standbyAllowed (beforeStandby a b)) = true := by
    rw [ha, beforeStandby_allowed, hb]
    rfl
  rw [finishEvent_power]
  unfold examineStandby
  rw [hl, if_pos hw]
  split
  next hr =>
    cases e : b.life.power
    · exact hl ▸ e
    · exact absurd e hr
    · exact absurd e hp
  next => rfl

/-- A waiting standby request is taken where the generator enters IDLE. -/
theorem finishEvent_taken {a b : Block} (hp : b.life.power = .standbyRequested)
    (hw : standbyAllowed a = true → standbyAllowed b = true) (ha : a.gen.state ≠ .idle)
    (hb : b.gen.state = .idle) : (finishEvent a b).life.power = .standby := by
  have hl : (beforeStandby a b).life = b.life := by rw [beforeStandby_eq]
  have hg : (beforeStandby a b).gen = b.gen := by rw [beforeStandby_eq]
  have hn : ¬ (standbyAllowed a && !standbyAllowed (beforeStandby a b)) = true := by
    rw [beforeStandby_allowed, Bool.and_eq_true, Bool.not_eq_true']
    exact fun ⟨h1, h2⟩ => absurd ((hw h1).symm.trans h2) (by decide)
  rw [finishEvent_power]
  unfold examineStandby
  rw [hl, if_neg (not_not.mpr hp), if_neg hn, if_pos ⟨ha, hg ▸ hb⟩]
  rfl

/-- A change of the record has it written. -/
theorem finishEvent_writesRecord {a b : Block} (h : a.descale.kept ≠ b.descale.kept) :
    (finishEvent a b).store.Awaits (.descale b.descale.kept) := by
  have hdoor : (examineDoorOpen a b).descale = b.descale := by
    unfold examineDoorOpen followCondition
    split_ifs <;> rfl
  have hkept : (examineDescaleWrite a (examineDoorOpen a b)).store.Awaits
      (.descale b.descale.kept) := by
    unfold examineDescaleWrite
    rw [hdoor, if_neg h]
    exact awaits_queueWrite _ _
  have hsilence : (beforeStandby a b).store.Awaits (.descale b.descale.kept) := by
    unfold beforeStandby examineSilence
    split_ifs <;> exact hkept
  have hstandby : (examineStandby a (beforeStandby a b)).store.Awaits
      (.descale b.descale.kept) := by
    unfold examineStandby
    split_ifs
    · exact hsilence
    · exact hsilence
    · rw [enterStandby_eq]
      exact Store.Awaits.queued (v := .scale _) hsilence fun e => RecordName.noConfusion e
    · exact hsilence
  rw [finishEvent_eq]
  unfold examineStore
  split
  · exact hstandby
  · exact hstandby.served

/-- The end of an event leaves the request rows, the wake's cause, and of the climate all but the
lamp's mark. -/
theorem finishEvent_keeps (a b : Block) :
    (finishEvent a b).share.requests = b.share.requests ∧
      (finishEvent a b).life.wake = b.life.wake ∧
      (finishEvent a b).climate =
        { b.climate with lampMark := (finishEvent a b).climate.lampMark } := by
  refine finishEvent_closed (P := fun c => c.share.requests = b.share.requests ∧
    c.life.wake = b.life.wake ∧ c.climate = { b.climate with lampMark := c.climate.lampMark }) a
    (fun _ _ h => by unfold followCondition; split <;> exact h) (fun h => h)
    (fun _ _ h => h) (fun h => h) ?_ ?_ ⟨rfl, rfl, rfl⟩
  · rintro c ⟨hr, hw, hc⟩
    rw [enterStandby_eq]
    exact ⟨hr, hw, congrArg (fun x : Climate => { x with lampMark := false }) hc⟩
  · rintro c ⟨hr, hw, hc⟩
    rw [serveStore_frame, serveStore_life]
    exact ⟨hr, hw, hc⟩

theorem finishEvent_has {k : AttnKind} (hk : k ≠ .doorOpen) (a b : Block) :
    (finishEvent a b).attn.has k = b.attn.has k := by
  refine finishEvent_closed (P := fun c => c.attn.has k = b.attn.has k) a
    (fun v c h => (has_followCondition hk v c).trans h) (fun h => h) (fun _ _ h => h) (fun h => h)
    (fun h => ?_) (fun h => ?_) rfl
  · rw [enterStandby_eq]
    exact h
  · rw [serveStore_frame]
    exact h

/-- An event that leaves what the examinations find, but for a generator that enters neither IDLE nor
FAULT and a procedure that stays in progress, or not, ends with the store alone. -/
structure Unmoved (a b : Block) : Prop where
  door : doorOpen b = doorOpen a
  climate : b.climate.state = a.climate.state
  run : b.run.state = a.run.state
  phase : b.descale.kept.phase = .idle ↔ a.descale.kept.phase = .idle
  idle : b.gen.state = .idle → a.gen.state = .idle
  fault : b.gen.state = .fault → a.gen.state = .fault

theorem Unmoved.finishEvent {a b : Block} (h : Unmoved a b) (hf : b.life.flush = .none) :
    finishEvent a b = setStore (finishEvent a b).store b := by
  have hdoor : examineDoorOpen a b = b := by
    have hc : doorOpenCondition a = doorOpenCondition b := by
      simp only [doorOpenCondition, h.door, h.climate, h.run]
    unfold examineDoorOpen
    rw [if_pos hc, ite_self]
  have hkept : examineDescaleWrite a b = setStore (examineDescaleWrite a b).store b := by
    unfold examineDescaleWrite
    split <;> rfl
  have hsilence : examineSilence a (examineDescaleWrite a b) = examineDescaleWrite a b := by
    refine if_pos ?_
    rw [hkept]
    simp only [silenceCondition, setStore_climate, setStore_run, setStore_descale, h.climate, h.run,
      ne_eq, h.phase]
  have hallowed : standbyAllowed a = true → standbyAllowed b = true := by
    simp only [standbyAllowed, Bool.and_eq_true, decide_eq_true_eq, h.climate, h.run, h.phase]
    exact fun ⟨h1, h2⟩ => ⟨h1, fun e => h2 (h.fault e)⟩
  have hstandby : examineStandby a (examineDescaleWrite a b) = examineDescaleWrite a b := by
    rw [hkept]
    have hn : ¬ (standbyAllowed a && !standbyAllowed (setStore (examineDescaleWrite a b).store b)) =
        true := by
      rw [Bool.and_eq_true, Bool.not_eq_true']
      exact fun ⟨h1, h2⟩ => absurd ((hallowed h1).symm.trans h2) (by decide)
    have hi : ¬ (a.gen.state ≠ .idle ∧
        (setStore (examineDescaleWrite a b).store b).gen.state = .idle) :=
      fun hg => hg.1 (h.idle hg.2)
    unfold examineStandby
    rw [if_neg hn, if_neg hi, ite_self]
  have he : Machine.finishEvent a b = examineStore a (examineDescaleWrite a b) := by
    rw [finishEvent_eq, beforeStandby, hdoor, hsilence, hstandby]
  rw [he, examineStore_eq a (b := examineDescaleWrite a b) (by rw [hkept]; exact hf), hkept]
  rfl

end Sys2Proof.Machine
end

section
/-! SUPPORT. The generator's states and rows, its claims, and the begin of a procedure
(R44, R65, R83). -/

namespace Sys2Proof.Machine

/-! ### The generator's state and its row (R44, R57) -/

/-- The request row of the generator as it enters a state. -/
def enteredRow (st : GenState) (b : Block) : Row :=
  match st with
  | .heating => ⟨genRating b, b.gen.prio⟩
  | .ready => ⟨b.gen.demand * genRating b / 1000, b.gen.prio⟩
  | .descale => ⟨b.descale.heater, 5⟩
  | .idle | .filling | .cooling | .draining | .waitWater | .fault =>
    ⟨0, b.share.requests.gen.prio⟩

theorem enterGen_eq (st : GenState) (b : Block) : enterGen st b =
    { b with
      gen := { b.gen with state := st }
      share := { b.share with
        requests := { b.share.requests with gen := enteredRow st b } } } := by
  cases st <;> rfl

/-! ### The descaling procedure's claim (R65, R84) -/

theorem claimDescaleDrain_eq (b : Block) : claimDescaleDrain b =
    { b with
      drain := (claimDescaleDrain b).drain
      descale := { b.descale with transfer := (claimDescaleDrain b).descale.transfer } } := by
  unfold claimDescaleDrain
  split
  · split
    next c hc =>
      rw [(claim_some hc).2]
      rfl
    next => rfl
  · rfl

/-! ### The begin of a procedure (R83, R84) -/

/-- The part with the procedure begun, before it turns to the generator. -/
def procedureBegun (b : Block) : Block :=
  setGen { b.gen with serviceDrain := false }
    (setClimate { b.climate with source := .run } (setDescale (.initial .begun) b))

theorem beginDescale_draining {b : Block} (h : b.gen.state = .draining) :
    beginDescale b = setGen { b.gen with serviceDrain := false, descaleTake := true }
      (procedureBegun b) := if_pos h

theorem beginDescale_dry {b : Block} (h : b.gen.state ≠ .draining) (hl : b.gen.level = .dry) :
    beginDescale b = enterAddAgent (enterGen .descale (procedureBegun b)) := by
  refine (if_neg h).trans (if_pos ?_)
  rw [enterGen_eq]
  exact hl

theorem beginDescale_wet {b : Block} (h : b.gen.state ≠ .draining) (hl : b.gen.level ≠ .dry) :
    beginDescale b = claimDescaleDrain (enterGen .descale (procedureBegun b)) := by
  refine (if_neg h).trans (if_neg ?_)
  rw [enterGen_eq]
  exact hl

/-- What the begin of a procedure leaves: outside the climate's source, the generator with its row,
the drain, the procedure and the entries, nothing changes. -/
structure DescaleBegun (a b : Block) : Prop where
  frame : b = { a with
    climate := b.climate, share := b.share, gen := b.gen, drain := b.drain, descale := b.descale
    attn := b.attn }
  climate : b.climate = { a.climate with source := .run }
  kept : b.descale.kept = { DescaleRec.initial with
    phase := if a.gen.state ≠ .draining ∧ a.gen.level = .dry then .addAgent else .drainOld }
  state : a.gen.state ≠ .draining → b.gen.state = .descale
  take : a.gen.state = .draining → b.gen.state = .draining ∧ b.gen.descaleTake = true
  agent : a.gen.state ≠ .draining → a.gen.level = .dry → b.attn.has .addDescaler = true
  account : b.gen.account = a.gen.account

theorem beginDescale_begun (a : Block) : DescaleBegun a (beginDescale a) := by
  by_cases hs : a.gen.state = .draining
  · rw [beginDescale_draining hs]
    exact
      { frame := rfl, climate := rfl, account := rfl
        kept := by rw [if_neg fun h => h.1 hs]; rfl
        state := fun h => absurd hs h
        take := fun _ => ⟨hs, rfl⟩
        agent := fun h => absurd hs h }
  by_cases hl : a.gen.level = .dry
  · rw [beginDescale_dry hs hl, enterGen_eq]
    exact
      { frame := rfl, climate := rfl, account := rfl
        kept := by rw [if_pos ⟨hs, hl⟩]; rfl
        state := fun _ => rfl
        take := fun h => absurd h hs
        agent := fun _ _ => (has_raiseAttn _ _ _ _).mpr (.inl rfl) }
  · rw [beginDescale_wet hs hl, claimDescaleDrain_eq, enterGen_eq]
    exact
      { frame := rfl, climate := rfl, account := rfl
        kept := by rw [if_neg fun h => hl h.2]; rfl
        state := fun _ => rfl
        take := fun h => absurd h hs
        agent := fun _ h => absurd h hl }

theorem DescaleBegun.replied {k : Byte} {st : Status} {p : Payload} {a b c : Block}
    (h : DescaleBegun a b) (he : SameBeforeEnd (replied k st p b) c) :
    c = { a with
      life := c.life, climate := c.climate, share := c.share, gen := c.gen, drain := c.drain
      descale := c.descale, attn := c.attn, store := c.store, link := c.link
      silence := c.silence } := by
  have hf := h.frame
  unfold SameBeforeEnd at he
  rw [he, hf]
  rfl

theorem descaleBeginRequest_taken {b : Block} (hc : b.climate.state = .off)
    (hr : b.run.state = .idle) (hg : b.gen.state ≠ .fault) (hp : b.descale.kept.phase = .idle) :
    descaleBeginRequest [] b = ⟨beginDescale b, .ok, []⟩ := by
  simp [descaleBeginRequest, descaling, answerOk, hc, hr, hg, hp]

/-- The checks of a begin, in their order (R83). -/
theorem descaleBeginRequest_refused {b : Block} {st : Status}
    (h : (if b.climate.state ≠ .off then some .refusedState
      else if b.run.state ≠ .idle then some .refusedState
      else if b.gen.state = .fault then some .refusedState
      else if b.descale.kept.phase ≠ .idle then some .busy else none) = some st) :
    descaleBeginRequest [] b = ⟨b, st, []⟩ := by
  unfold descaleBeginRequest
  rw [if_neg (by decide)]
  have hd : descaling b = true ↔ b.descale.kept.phase ≠ .idle := decide_eq_true_iff
  rw [if_congr hd rfl rfl]
  split_ifs at h ⊢ <;> cases h <;> rfl

@[simp] theorem heard_runState (b : Block) : (heard b).run.state = b.run.state := by
  rw [(heard_heard b).run]

@[simp] theorem heard_level (b : Block) : (heard b).gen.level = b.gen.level := by
  rw [(heard_heard b).gen]

theorem wake_awake (c : WakeCause) (b : Block) : (wake c b).life.power ≠ .standby := by
  unfold wake
  split
  · exact fun e => PowerState.noConfusion e
  · assumption

theorem heard_power (b : Block) : (heard b).life.power ≠ .standby := by
  have h := HoldMoved.endSilent (wake .link b)
  have hl : (heard b).life = (wake .link b).life := by
    rw [heard, acceptFrame, restartSilence, h.eq]
    rfl
  exact hl ▸ wake_awake .link b

/-- Settles O37: the checks in their order; past them the procedure begins, its record is written and
the part wakes or stays awake, as standby is allowed no more. -/
theorem descaleBegins : Obligations.DescaleBegins := by
  refine ⟨fun s hs st h => ?_, fun s hs hc hr hg hp => ?_⟩
  · refine request_refused hs 0x28#8 (descaleBeginRequest_refused ?_)
    simpa only [ne_eq, (heard_heard s.toBlock).off, heard_runState, heard_genState,
      heard_descale] using h
  · have ha := descaleBeginRequest_taken (b := heard s.toBlock)
      ((heard_heard s.toBlock).off.mpr hc) (by rwa [heard_runState]) (by rwa [heard_genState])
      (by rwa [heard_descale])
    have hx := request_answers hs 0x28#8 (descaleBeginRequest [])
    rw [ha] at hx
    have hb := beginDescale_begun (heard s.toBlock)
    set b := replied 0x28#8 .ok [] (beginDescale (heard s.toBlock)) with hbe
    have hlife : (beginDescale (heard s.toBlock)).life = (heard s.toBlock).life := by rw [hb.frame]
    have hlink : (beginDescale (heard s.toBlock)).link = (heard s.toBlock).link := by rw [hb.frame]
    have hkept := hb.kept
    rw [heard_genState, heard_level] at hkept
    have hphase : b.descale.kept.phase ≠ .idle := by
      change (beginDescale (heard s.toBlock)).descale.kept.phase ≠ _
      rw [hkept]
      split <;> exact fun e => DescalePhase.noConfusion e
    have hallowed : standbyAllowed s.toBlock = true := by simp [standbyAllowed, hc, hr, hp, hg]
    have hwithdrawn : standbyAllowed b = false := by simp [standbyAllowed, hphase]
    have hpower : b.life.power ≠ .standby := by
      change (beginDescale (heard s.toBlock)).life.power ≠ _
      rw [hlife]
      exact heard_power _
    have hend := finishEvent_sameBeforeEnd s.toBlock b
    have hgen : (finishEvent s.toBlock b).gen = (beginDescale (heard s.toBlock)).gen :=
      (congrArg Block.gen hend).trans rfl
    have hdescale : (finishEvent s.toBlock b).descale = (beginDescale (heard s.toBlock)).descale :=
      (congrArg Block.descale hend).trans rfl
    have hclimate := (finishEvent_keeps s.toBlock b).2.2
    have hrecord : s.descale.kept ≠ b.descale.kept := fun e => hphase (e ▸ hp)
    refine ⟨_, hx, ?_, ?_, ?_, fun h => ?_, fun h => ?_, fun h hl => ?_, ?_, ?_, ?_, ?_⟩
    · exact (congrArg Descale.kept hdescale).trans hkept
    · refine (congrArg Climate.source hclimate).trans ?_
      exact congrArg Climate.source hb.climate
    · exact finishEvent_withdrawn hallowed hwithdrawn hpower
    · exact (congrArg Generator.state hgen).trans (hb.state (by rwa [heard_genState]))
    · have ht := hb.take (by rwa [heard_genState])
      exact ⟨(congrArg Generator.state hgen).trans ht.1,
        (congrArg Generator.descaleTake hgen).trans ht.2⟩
    · refine (finishEvent_has (by decide) _ _).trans (hb.agent ?_ ?_)
      · rwa [heard_genState]
      · rwa [heard_level]
    · have hw := (finishEvent_writesRecord hrecord).mem
      exact (congrArg Descale.kept hdescale).symm ▸ hw
    · refine (congrArg (fun b : Block => b.link.owed) hend).trans ?_
      change some _ = _
      rw [hlink, heard_dropped]
      rfl
    · exact (congrArg Generator.account hgen).trans (hb.account.trans (heard_account _))
    · exact congrArg s.withBlock (hb.replied hend)

end Sys2Proof.Machine
end

section
/-! SUPPORT. Claims of the channels, and the service decision (R45, R46, R65). -/

namespace Sys2Proof.Machine

/-! ### Claims (R65) -/

/-- The fill channel is free and no drain runs: a fill may be claimed. -/
def Block.mayFill (b : Block) : Bool := decide (b.fill.state = .idle) && !b.drain.inFlight

/-- The drain channel is free and no fill runs: a drain may be claimed. -/
def Block.mayDrain (b : Block) : Bool := decide (b.drain.state = .idle) && !b.fill.inFlight

/-- A claim is granted on an idle channel while the other one rests. -/
theorem claim_eq {k : Claim} (hk : k.sound = true) (b : Block) : claim k b =
    if (b.channel k.channel).state = .idle ∧ (b.channel (otherChannel k.channel)).inFlight = false
    then some (setChannel k.channel (claimedRecord k b) b) else none := by
  unfold claim claimCheck
  by_cases h1 : (b.channel k.channel).state = .idle
  · cases h2 : (b.channel (otherChannel k.channel)).inFlight <;> simp [h1, hk]
  · simp [h1]

theorem claim_fill {k : Claim} (hc : k.channel = .fill) (hk : k.sound = true) (b : Block) :
    claim k b = if b.mayFill then some (setChannel .fill (claimedRecord k b) b) else none := by
  have h : ((b.channel k.channel).state = .idle ∧
      (b.channel (otherChannel k.channel)).inFlight = false) ↔ b.mayFill = true := by
    simp [hc, Block.mayFill, Block.channel, otherChannel]
  rw [claim_eq hk, if_congr h (by rw [hc]) rfl]

theorem claim_drain {k : Claim} (hc : k.channel = .drain) (hk : k.sound = true) (b : Block) :
    claim k b = if b.mayDrain then some (setChannel .drain (claimedRecord k b) b) else none := by
  have h : ((b.channel k.channel).state = .idle ∧
      (b.channel (otherChannel k.channel)).inFlight = false) ↔ b.mayDrain = true := by
    simp [hc, Block.mayDrain, Block.channel, otherChannel]
  rw [claim_eq hk, if_congr h (by rw [hc]) rfl]

/-! ### The generator's fill (R46) -/

/-- The level is below the target of the generator's fills. -/
def Block.short (b : Block) : Bool := decide (b.gen.level = .dry) || decide (b.gen.level = .low)

/-- The generator's fill as it is claimed at a short level. -/
def freshFill (b : Block) : ChannelRec :=
  { state := if b.switches.tank.deb then .active else .paused
    owner := .generator, mode := .destSync, target := some .normal, limit := 400
    strokes := 0, runOn := none, flow := 0, noFlow := 0, divider := 0, pauseMs := 0
    endReason := none, levelAtEnd := none }

theorem short_iff (b : Block) : b.short = true ↔ b.gen.level = .dry ∨ b.gen.level = .low := by
  simp [Block.short]

theorem claimedRecord_short {b : Block} (h : b.short = true) :
    claimedRecord serviceFillClaim b = freshFill b := by
  rcases (short_iff b).mp h with e | e <;> simp only [claimedRecord, e] <;> rfl

/-- The part with the generator's fill claimed. -/
def fillClaimed (p : Purpose) (b : Block) : Block :=
  setGen { b.gen with held := some p } (setChannel .fill (freshFill b) b)

theorem genClaim_fill {b : Block} (h : b.short = true) (p : Purpose) :
    genClaim serviceFillClaim p b = if b.mayFill then some (fillClaimed p b) else none := by
  unfold genClaim
  rw [claim_fill rfl rfl, claimedRecord_short h]
  split <;> rfl

/-- A fill claimed at a short level is not ended by its claim. -/
theorem takeImmediateFill_fresh {b c : Block} (h : b.fill = freshFill c) :
    takeImmediateFill b = b := by
  refine if_neg fun ⟨hs, _⟩ => ?_
  rw [h, freshFill] at hs
  dsimp only at hs
  split at hs <;> cases hs

theorem startFilling_eq {b : Block} (h : b.short = true) :
    startFilling b =
      if b.mayFill then some (enterGen .filling (fillClaimed .serviceFill b)) else none := by
  unfold startFilling
  rw [genClaim_fill h]
  split
  · refine congrArg some (takeImmediateFill_fresh (c := b) ?_)
    rw [enterGen_eq]
    rfl
  · rfl

/-! ### The service decision (R45) -/

theorem serviceDecision_barred {b : Block}
    (h : steamLock b = true ∨ b.sensors.generator.ok = false) :
    serviceDecision b = restIdle b := by
  unfold serviceDecision
  rcases h with h | h
  · exact if_pos h
  · split
    · rfl
    · exact if_pos (by rw [h]; rfl)

theorem serviceDecision_heats {b : Block} (hk : steamLock b = false)
    (hw : b.sensors.generator.ok = true) (hl : b.short = false) :
    serviceDecision b = enterGen .heating (setGen { b.gen with fillRefused := false } b) := by
  unfold serviceDecision
  rw [if_neg (ne_true_of_eq_false hk), if_neg (by simp [hw])]
  cases e : b.gen.level
  case dry | low => simp [Block.short, e] at hl
  all_goals rfl

theorem serviceDecision_short {b : Block} (hk : steamLock b = false)
    (hw : b.sensors.generator.ok = true) (hl : b.short = true) :
    serviceDecision b =
      if b.mayFill then
        enterGen .filling (fillClaimed .serviceFill (setGen { b.gen with fillRefused := false } b))
      else setGen { (restIdle b).gen with fillRefused := true } (restIdle b) := by
  unfold serviceDecision
  rw [if_neg (ne_true_of_eq_false hk), if_neg (by simp [hw])]
  have hs := startFilling_eq (b := setGen { b.gen with fillRefused := false } b) hl
  have hm : (setGen { b.gen with fillRefused := false } b).mayFill = b.mayFill := rfl
  rw [hs, hm]
  cases b.mayFill <;> rcases (short_iff b).mp hl with e | e <;> rw [e] <;> rfl

/-- What the service decision makes of a part: it moves the generator, its row and its fill alone. -/
structure ServiceDecided (a b : Block) : Prop where
  frame : b = { a with gen := b.gen, share := b.share, fill := b.fill }
  gen : b.gen = { a.gen with
    state := b.gen.state, held := b.gen.held, fillRefused := b.gen.fillRefused }
  share : b.share = { a.share with
    requests := { a.share.requests with gen := b.share.requests.gen } }
  state : b.gen.state = .idle ∨ b.gen.state = .heating ∨ b.gen.state = .filling
  busy : a.mayFill = false ∨ a.short = false → b.fill = a.fill
  barred : steamLock a = true ∨ a.sensors.generator.ok = false →
    b.gen.state = .idle ∧ b.share.requests.gen.watts = 0
  heats : steamLock a = false → a.sensors.generator.ok = true → a.short = false →
    b.gen.state = .heating ∧ b.share.requests.gen = ⟨genRating a, a.gen.prio⟩
  fills : steamLock a = false → a.sensors.generator.ok = true → a.short = true →
    a.mayFill = true → b.gen.state = .filling ∧ b.share.requests.gen.watts = 0 ∧
      b.gen.held = some .serviceFill ∧ b.fill = freshFill a
  waits : steamLock a = false → a.sensors.generator.ok = true → a.short = true →
    a.mayFill = false → b.gen.state = .idle ∧ b.share.requests.gen.watts = 0

theorem serviceDecision_decided (a : Block) : ServiceDecided a (serviceDecision a) := by
  by_cases hb : steamLock a = true ∨ a.sensors.generator.ok = false
  · rw [serviceDecision_barred hb, restIdle, enterGen_eq]
    have hn : ∀ {p : Prop}, steamLock a = false → a.sensors.generator.ok = true → p :=
      fun h1 h2 => by simp [h1, h2] at hb
    exact ⟨rfl, rfl, rfl, .inl rfl, fun _ => rfl, fun _ => ⟨rfl, rfl⟩, fun h1 h2 => hn h1 h2,
      fun h1 h2 => hn h1 h2, fun h1 h2 => hn h1 h2⟩
  simp only [not_or, Bool.not_eq_true, Bool.not_eq_false] at hb
  obtain ⟨hk, hw⟩ := hb
  have hn : ∀ {p : Prop}, steamLock a = true ∨ a.sensors.generator.ok = false → p :=
    fun h => by simp [hk, hw] at h
  cases hl : a.short
  · rw [serviceDecision_heats hk hw hl, enterGen_eq]
    exact ⟨rfl, rfl, rfl, .inr (.inl rfl), fun _ => rfl, hn, fun _ _ _ => ⟨rfl, rfl⟩,
      fun _ _ h => Bool.noConfusion (hl.symm.trans h), fun _ _ h => Bool.noConfusion (hl.symm.trans h)⟩
  rw [serviceDecision_short hk hw hl]
  cases hm : a.mayFill
  · rw [if_neg Bool.false_ne_true, restIdle, enterGen_eq]
    exact ⟨rfl, rfl, rfl, .inl rfl, fun _ => rfl, hn, fun _ _ h => Bool.noConfusion (hl.symm.trans h),
      fun _ _ _ h => Bool.noConfusion (hm.symm.trans h), fun _ _ _ _ => ⟨rfl, rfl⟩⟩
  · rw [if_pos rfl, enterGen_eq]
    exact ⟨rfl, rfl, rfl, .inr (.inr rfl),
      fun h => h.elim (fun h => Bool.noConfusion (hm.symm.trans h))
        fun h => Bool.noConfusion (hl.symm.trans h),
      hn, fun _ _ h => Bool.noConfusion (hl.symm.trans h),
      fun _ _ _ _ => ⟨rfl, rfl, rfl, rfl⟩, fun _ _ _ h => Bool.noConfusion (hm.symm.trans h)⟩

end Sys2Proof.Machine
end

section
/-! SUPPORT. Debounced changes, and the retries they make (R52, R76, R77, R88, R164, R165). -/

namespace Sys2Proof.Machine

/-! ### A debounced change past start-up (R165) -/

/-- A change to the state that stands, or that the raw level does not hold, is none. -/
theorem debounced_none {i : SwitchInput} {v : Bool} {settle change : Block → Block} {b : Block}
    (hs : b.life.settling = none)
    (h : (switchOf b.switches i).deb = v ∨ (switchOf b.switches i).raw ≠ v) :
    debounced i v settle change b = b := by
  unfold debounced
  extract_lets x
  split
  · rfl
  next hr =>
    rw [if_neg (by simp [hs]), if_pos (h.resolve_right hr)]

theorem debounced_change {i : SwitchInput} {v : Bool} {settle change : Block → Block} {b : Block}
    (hs : b.life.settling = none) (hd : (switchOf b.switches i).deb ≠ v)
    (hr : (switchOf b.switches i).raw = v) :
    debounced i v settle change b = change (setDebounced i v b) := by
  unfold debounced
  extract_lets x
  rw [if_neg (not_not.mpr hr), if_neg (by simp [hs]), if_neg hd]

theorem setDebounced_eq {i : SwitchInput} {v : Bool} {b : Block}
    (hr : (switchOf b.switches i).raw = v) :
    setDebounced i v b = setSwitches (setSwitch i ⟨v, v, none, false⟩ b.switches) b := by
  unfold setDebounced Switch.taken
  rw [hr]

theorem event_live {f : Block → Block} {b : Block} (h : live b = true) :
    event f b = finishEvent b (f b) := if_pos h

theorem event_debounced_none {i : SwitchInput} {v : Bool} {settle change : Block → Block}
    {s : State} (hl : live s.toBlock = true) (hs : s.life.settling = none)
    (h : (switchOf s.switches i).deb = v ∨ (switchOf s.switches i).raw ≠ v) :
    onBlock (event (debounced i v settle change)) s = .next s := by
  have e : event (debounced i v settle change) s.toBlock = s.toBlock := by
    rw [event_live hl, debounced_none hs h]
    exact finishEvent_same rfl rfl
  exact onBlock_eq e

theorem event_debounced {i : SwitchInput} {v : Bool} {settle change : Block → Block} {s : State}
    (hl : live s.toBlock = true) (hs : s.life.settling = none)
    (hd : (switchOf s.switches i).deb ≠ v) (hr : (switchOf s.switches i).raw = v) :
    onBlock (event (debounced i v settle change)) s =
      .next (s.withBlock (finishEvent s.toBlock (change
        (setSwitches (setSwitch i ⟨v, v, none, false⟩ s.switches) s.toBlock)))) := by
  refine onBlock_eq ?_
  rw [event_live hl, debounced_change hs hd hr, setDebounced_eq hr]

theorem live_flushes {b : Block} (h : live b = true) : b.life.flush = .none :=
  ((live_iff b).mp h).2.2

theorem examined_wake (c : WakeCause) (b : Block) : (wake c b).examined = b.examined := by
  have hl := wake_life c b
  rw [wake_eq]
  simp only [Block.examined]
  rw [hl]
  rfl

/-! ### The retries (R52, R88) -/

theorem WaterWork.claimPhaseTransfer {m p : Prop} {P : Block → Prop} (hP : WaterWork m p P)
    (hp : p) {b : Block} (hb : P b) : P (claimPhaseTransfer b) := by
  unfold Machine.claimPhaseTransfer
  split
  · exact hP.claimDescaleDrain hb
  · exact hP.claimDescaleDrain hb
  · exact hP.claimDescaleDrain hb
  · exact hP.claimDescaleFill hp hb
  · exact hP.claimDescaleFill hp hb
  all_goals exact hb

theorem WaterWork.retryDescale {m p : Prop} {P : Block → Prop} (hP : WaterWork m p P) (hp : p)
    {b : Block} (hb : P b) : P (retryDescale b) := by
  unfold Machine.retryDescale
  split
  · exact hP.claimPhaseTransfer hp (hP.descale _ _ (.inr rfl) hb)
  · exact hb

theorem WaterWork.retryWater {m p : Prop} {P : Block → Prop} (hP : WaterWork m p P) (hm : m)
    {b : Block} (hb : P b) : P (retryWater b) := by
  unfold Machine.retryWater
  split
  · exact hP.serviceDecision hm hb
  · exact hb

theorem WaterWork.moveTankCycle {m p : Prop} {P : Block → Prop} (hP : WaterWork m p P)
    (f : TankCycle → TankCycle) {b : Block} (hb : P b) : P (moveTankCycle f b) :=
  Closed.ite (hP.descale _ _ (.inr rfl) hb) hb

theorem giveHeater_still (w : Nat) (b : Block) :
    (giveHeater w b).attn = b.attn ∧ (giveHeater w b).drain = b.drain := by
  unfold giveHeater refreshGenRow
  extract_lets c
  split
  · split <;> exact ⟨rfl, rfl⟩
  · exact ⟨rfl, rfl⟩

/-- The end of the procedure's fill at its level raises nothing, and leaves the drain. -/
theorem descaleFillEnd_level (b : Block) :
    (descaleFillEnd .level b).attn = b.attn ∧ (descaleFillEnd .level b).drain = b.drain := by
  have hr : (releaseDescale .fill b).attn = b.attn ∧ (releaseDescale .fill b).drain = b.drain := by
    unfold releaseDescale
    rcases release_cases .fill .descale b with e | ⟨-, e⟩ <;> rw [e] <;> exact ⟨rfl, rfl⟩
  have hd : ∀ c : Block,
      (descaleFillDone c).attn = c.attn ∧ (descaleFillDone c).drain = c.drain := fun c => by
    unfold descaleFillDone
    split
    · exact giveHeater_still _ (setDescale _ (setPhase .soak c))
    · exact ⟨rfl, rfl⟩
    · exact ⟨rfl, rfl⟩
  obtain ⟨h1, h2⟩ := hd (releaseDescale .fill b)
  exact ⟨h1.trans hr.1, h2.trans hr.2⟩

/-- What a retry leaves: the entries, and a channel that is not idle. -/
structure Retried (a b : Block) : Prop where
  attn : b.attn = a.attn
  fill : a.fill.state ≠ .idle → b.fill = a.fill
  drain : a.drain.state ≠ .idle → b.drain = a.drain

namespace Retried

theorem refl (a : Block) : Retried a a := ⟨rfl, fun _ => rfl, fun _ => rfl⟩

theorem trans {a b c : Block} (h : Retried a b) (g : Retried b c) : Retried a c where
  attn := g.attn.trans h.attn
  fill ha := (g.fill (by rwa [h.fill ha])).trans (h.fill ha)
  drain ha := (g.drain (by rwa [h.drain ha])).trans (h.drain ha)

theorem serviceDecision (a : Block) : Retried a (serviceDecision a) := by
  have h := serviceDecision_decided a
  have hattn : (Machine.serviceDecision a).attn = a.attn := by rw [h.frame]
  have hdrain : (Machine.serviceDecision a).drain = a.drain := by rw [h.frame]
  exact ⟨hattn, fun ha => h.busy (.inl (by simp [Block.mayFill, ha])), fun _ => hdrain⟩

theorem retryWater (a : Block) : Retried a (retryWater a) := by
  unfold Machine.retryWater
  split
  · exact serviceDecision a
  · exact refl a

theorem claimDescaleDrain (a : Block) : Retried a (claimDescaleDrain a) where
  attn := by rw [claimDescaleDrain_eq]
  fill _ := by rw [claimDescaleDrain_eq]
  drain ha := by
    have hm : claim descaleDrainClaim a = none := by
      rw [claim_drain rfl rfl, if_neg (by simp [Block.mayDrain, ha])]
    unfold Machine.claimDescaleDrain
    rw [hm, ite_self]

theorem claimDescaleFill (a : Block) : Retried a (claimDescaleFill a) := by
  unfold Machine.claimDescaleFill
  split
  · rw [claim_fill rfl rfl]
    cases hm : a.mayFill
    · exact refl a
    · have hf : ¬ a.fill.state ≠ .idle := by
        simp only [Block.mayFill, Bool.and_eq_true, decide_eq_true_eq] at hm
        exact not_not.mpr hm.1
      simp only [if_true]
      split
      · obtain ⟨h1, h2⟩ := descaleFillEnd_level
          (setDescale { a.descale with transfer := some .fill }
            (setChannel .fill (claimedRecord descaleFillClaim a) a))
        exact ⟨h1, fun h => absurd h hf, fun _ => h2⟩
      · exact ⟨rfl, fun h => absurd h hf, fun _ => rfl⟩
  · exact refl a

theorem claimPhaseTransfer (a : Block) : Retried a (claimPhaseTransfer a) := by
  unfold Machine.claimPhaseTransfer
  split
  · exact claimDescaleDrain a
  · exact claimDescaleDrain a
  · exact claimDescaleDrain a
  · exact claimDescaleFill a
  · exact claimDescaleFill a
  all_goals exact refl a

theorem retryDescale (a : Block) : Retried a (retryDescale a) := by
  unfold Machine.retryDescale
  split
  · exact trans (b := setDescale { a.descale with wait := none } a)
      ⟨rfl, fun _ => rfl, fun _ => rfl⟩ (claimPhaseTransfer _)
  · exact refl a

theorem moveTankCycle (f : TankCycle → TankCycle) (a : Block) : Retried a (moveTankCycle f a) := by
  unfold Machine.moveTankCycle
  split
  · exact ⟨rfl, fun _ => rfl, fun _ => rfl⟩
  · exact refl a

end Retried
end Sys2Proof.Machine
end

section
/-! SUPPORT. The tank and the probe plug (R52, R76, R77, R88, R92, R164). -/

namespace Sys2Proof.Machine

/-! ### The tank put back and taken out (R76, R77, R92) -/

/-- The part with the tank put back, before the retries. -/
def tankReturned (b : Block) : Block :=
  setChannel .drain b.drain.resume
    (setChannel .fill b.fill.resume (clearAttn .tankMissing (wake .tank b)))

theorem wake_channels (c : WakeCause) (b : Block) :
    (wake c b).fill = b.fill ∧ (wake c b).drain = b.drain := by
  rw [wake_eq]
  exact ⟨rfl, rfl⟩

theorem tankInserted_eq (b : Block) : tankInserted b =
    retryDescale (moveTankCycle .insertion (retryWater (tankReturned b))) := by
  unfold tankInserted tankReturned
  obtain ⟨hf, hd⟩ := wake_channels .tank b
  simp only [clearAttn, setAttn_fill, setAttn_drain, hf, hd]

theorem tankInserted_outside (b : Block) : SameOutside (wake .tank b) (tankInserted b) := by
  have hw := SameOutside.work (wake .tank b)
  rw [tankInserted_eq]
  exact hw.retryDescale trivial (hw.moveTankCycle _ (hw.retryWater trivial rfl))

theorem tankInserted_retried (b : Block) : Retried (tankReturned b) (tankInserted b) := by
  rw [tankInserted_eq]
  exact (Retried.retryWater _).trans ((Retried.moveTankCycle _ _).trans (Retried.retryDescale _))

theorem tankInserted_found (b : Block) : (tankInserted b).attn.has .tankMissing = false := by
  rw [(tankInserted_retried b).attn, Bool.eq_false_iff]
  exact fun h => ((has_clearAttn .tankMissing .tankMissing (wake .tank b)).mp h).1 rfl

theorem resume_paused {r : ChannelRec} (h : r.state = .paused) :
    r.resume = { r with state := .active, pauseMs := 0, noFlow := 0 } := if_pos h

/-- A paused transfer goes on, and no retry takes its channel. -/
theorem tankInserted_resumes {b : Block} (c : Channel) (h : (b.channel c).state = .paused) :
    (tankInserted b).channel c =
      { b.channel c with state := .active, pauseMs := 0, noFlow := 0 } := by
  have hr := tankInserted_retried b
  have hb : ChannelState.active ≠ .idle := fun e => ChannelState.noConfusion e
  cases c
  · have hf : (tankReturned b).fill = b.fill.resume := rfl
    rw [resume_paused (r := b.fill) h] at hf
    exact (hr.fill (by rw [hf]; exact hb)).trans hf
  · have hd : (tankReturned b).drain = b.drain.resume := rfl
    rw [resume_paused (r := b.drain) h] at hd
    exact (hr.drain (by rw [hd]; exact hb)).trans hd

theorem moveTankCycle_eq (f : TankCycle → TankCycle) (b : Block) : moveTankCycle f b =
    setDescale { b.descale with tankCycle := (moveTankCycle f b).descale.tankCycle } b := by
  unfold moveTankCycle
  split <;> rfl

theorem tankRemoved_eq (b : Block) : tankRemoved b = { wake .tank b with
    fill := b.fill.pause, drain := b.drain.pause
    descale := { b.descale with tankCycle := (tankRemoved b).descale.tankCycle } } := by
  obtain ⟨hf, hd⟩ := wake_channels .tank b
  have hk : (wake .tank b).descale = b.descale := by rw [wake_eq]
  have e : tankRemoved b = moveTankCycle .removal
      (setChannel .drain b.drain.pause (setChannel .fill b.fill.pause (wake .tank b))) := by
    unfold tankRemoved
    simp only [hf, hd]
  rw [e, moveTankCycle_eq, ← hk]
  rfl

theorem tankRemoved_examined (b : Block) : (tankRemoved b).examined = b.examined := by
  have hk : (wake .tank b).descale.kept = b.descale.kept := by rw [wake_eq]
  have he : (tankRemoved b).examined = { (wake .tank b).examined with kept := b.descale.kept } := by
    rw [tankRemoved_eq]
    rfl
  rw [he, ← hk]
  exact examined_wake .tank b

theorem tankRemoved_pauses (b : Block) (c : Channel) : (tankRemoved b).channel c =
    if (b.channel c).state = .active then { b.channel c with state := .paused, pauseMs := 0 }
    else b.channel c := by
  rw [tankRemoved_eq]
  cases c <;> rfl

/-! ### The events of the tank and the plug (R164, R167, R184) -/

theorem wake_cause {b : Block} (c : WakeCause) (h : b.life.power = .standby) :
    (wake c b).life.wake = some c := by
  rw [wake_standby c h]
  rfl

/-- Where a debounced change, a wake, the water's own work and the end of the event reach. -/
theorem finished_frame {a b c d t : Block} (hb : b = { a with switches := b.switches })
    (hw : c = { b with life := c.life, share := c.share, silence := c.silence })
    (ho : SameOutside c d) (he : SameBeforeEnd d t) :
    t.switches = b.switches ∧ t = { a with
      switches := t.switches, life := t.life, climate := t.climate, share := t.share
      gen := t.gen, fill := t.fill, drain := t.drain, descale := t.descale, attn := t.attn
      store := t.store, silence := t.silence } := by
  unfold SameOutside at ho
  unfold SameBeforeEnd at he
  rw [he, ho, hw, hb]
  exact ⟨rfl, rfl⟩

/-- An insertion that changes the debounced state (R52, R77, R167). -/
theorem tankInsertion_acts {s : State} (hl : live s.toBlock = true) (hs : s.life.settling = none)
    (hd : s.switches.tank.deb = false) (hr : s.switches.tank.raw = true) :
    ∃ t, exec .tankInsertion s = .next t ∧
      t.switches = setSwitch .tank ⟨true, true, none, false⟩ s.switches ∧
      t.attn.has .tankMissing = false ∧
      (∀ c, (s.channel c).state = .paused → (t.channel c).state = .active ∧
        (t.channel c).noFlow = 0 ∧ (t.channel c).pauseMs = 0 ∧
        (t.channel c).strokes = (s.channel c).strokes) ∧
      (s.life.power = .standby → t.life.wake = some .tank) ∧
      t = { s with
        switches := t.switches, life := t.life, climate := t.climate, share := t.share
        gen := t.gen, fill := t.fill, drain := t.drain, descale := t.descale, attn := t.attn
        store := t.store, silence := t.silence } := by
  have hx := event_debounced (i := .tank) (settle := id) (change := tankInserted) hl hs
    (by rw [switchOf, hd]; decide) hr
  refine ⟨_, hx, ?_⟩
  generalize hb : setSwitches (setSwitch .tank ⟨true, true, none, false⟩ s.switches) s.toBlock = b
  have hb' : b = { s.toBlock with switches := b.switches } := by rw [← hb]; rfl
  obtain ⟨hsw, hframe⟩ := finished_frame hb' (wake_eq .tank b) (tankInserted_outside b)
    (finishEvent_sameBeforeEnd s.toBlock (tankInserted b))
  refine ⟨hsw.trans (by rw [← hb]; rfl),
    (finishEvent_has (by decide) _ _).trans (tankInserted_found b), fun c hc => ?_, fun hp => ?_,
    congrArg s.withBlock hframe⟩
  · have hch : (finishEvent s.toBlock (tankInserted b)).channel c = (tankInserted b).channel c := by
      rw [finishEvent_sameBeforeEnd s.toBlock (tankInserted b)]
      cases c <;> rfl
    have hbc : b.channel c = s.channel c := by
      rw [← hb]
      cases c <;> rfl
    have hres := hch.trans (tankInserted_resumes c (hbc ▸ hc))
    rw [hbc] at hres
    change ((finishEvent s.toBlock (tankInserted b)).channel c).state = _ ∧
      ((finishEvent s.toBlock (tankInserted b)).channel c).noFlow = _ ∧
      ((finishEvent s.toBlock (tankInserted b)).channel c).pauseMs = _ ∧
      ((finishEvent s.toBlock (tankInserted b)).channel c).strokes = _
    rw [hres]
    exact ⟨rfl, rfl, rfl, rfl⟩
  · have hlife : (tankInserted b).life = (wake .tank b).life := by rw [tankInserted_outside b]
    have hpb : b.life.power = .standby := by rw [hb']; exact hp
    exact (finishEvent_keeps s.toBlock (tankInserted b)).2.1.trans
      ((congrArg Life.wake hlife).trans (wake_cause .tank hpb))

/-- A removal that changes the debounced state (R76, R92, R167). -/
theorem tankRemoval_acts {s : State} (hl : live s.toBlock = true) (hs : s.life.settling = none)
    (hd : s.switches.tank.deb = true) (hr : s.switches.tank.raw = false) :
    ∃ t, exec .tankRemoval s = .next t ∧
      t.switches = setSwitch .tank ⟨false, false, none, false⟩ s.switches ∧
      (∀ c, t.channel c =
        if (s.channel c).state = .active then
          { s.channel c with state := .paused, pauseMs := 0 } else s.channel c) ∧
      (s.life.power = .standby → t.life.wake = some .tank) ∧
      t = { s with
        switches := t.switches, life := t.life, share := t.share, fill := t.fill
        drain := t.drain, descale := t.descale, silence := t.silence } := by
  have hx := event_debounced (i := .tank) (settle := id) (change := tankRemoved) hl hs
    (by rw [switchOf, hd]; decide) hr
  generalize hb : setSwitches (setSwitch .tank ⟨false, false, none, false⟩ s.switches) s.toBlock = b
    at hx
  have hfin : finishEvent s.toBlock (tankRemoved b) = tankRemoved b := by
    refine finishEvent_same ((tankRemoved_examined b).trans ?_) ?_
    · rw [← hb]
      rfl
    · rw [tankRemoved_eq, wake_eq, ← hb]
      rfl
  rw [hfin] at hx
  refine ⟨_, hx, ?_, fun c => (tankRemoved_pauses b c).trans ?_, fun hp => ?_, ?_⟩
  · change (tankRemoved b).switches = _
    rw [tankRemoved_eq, wake_eq, ← hb]
    rfl
  · rw [← hb]
    cases c <;> rfl
  · change (tankRemoved b).life.wake = _
    rw [tankRemoved_eq]
    exact wake_cause .tank (by rw [← hb]; exact hp)
  · refine congrArg s.withBlock ?_
    rw [tankRemoved_eq, wake_eq, ← hb]
    rfl

/-- A plug-in that changes the debounced state (R164, R167). -/
theorem plugIn_acts {s : State} (hl : live s.toBlock = true) (hs : s.life.settling = none)
    (hd : s.switches.plug.deb = false) (hr : s.switches.plug.raw = true) :
    ∃ t, exec .plugIn s = .next t ∧
      t.switches = setSwitch .plug ⟨true, true, none, false⟩ s.switches ∧
      t.sensors =
        { s.sensors with probe1 := .starting, probe2 := .starting, probe3 := .starting } ∧
      (s.life.power = .standby → t.life.wake = some .probe) ∧
      t = { s with
        switches := t.switches, life := t.life, share := t.share, sensors := t.sensors
        silence := t.silence } := by
  have hx := event_debounced (i := .plug) (settle := id)
    (change := fun b => startProbes (wake .probe b)) hl hs (by rw [switchOf, hd]; decide) hr
  generalize hb : setSwitches (setSwitch .plug ⟨true, true, none, false⟩ s.switches) s.toBlock = b
    at hx
  have hfin : finishEvent s.toBlock (startProbes (wake .probe b)) = startProbes (wake .probe b) := by
    refine finishEvent_same ((examined_wake .probe b).trans ?_) ?_
    · rw [← hb]
      rfl
    · rw [wake_eq, ← hb]
      rfl
  rw [hfin] at hx
  refine ⟨_, hx, ?_, ?_, fun hp => ?_, ?_⟩
  · change (wake .probe b).switches = _
    rw [wake_eq, ← hb]
    rfl
  · change (startProbes (wake .probe b)).sensors = _
    rw [wake_eq, ← hb]
    rfl
  · exact wake_cause .probe (by rw [← hb]; exact hp)
  · refine congrArg s.withBlock ?_
    rw [wake_eq, ← hb]
    rfl

/-- An unplug that changes the debounced state (R164, R167). -/
theorem unplug_acts {s : State} (hl : live s.toBlock = true) (hs : s.life.settling = none)
    (hd : s.switches.plug.deb = true) (hr : s.switches.plug.raw = false) :
    ∃ t, exec .unplug s = .next t ∧
      t.switches = setSwitch .plug ⟨false, false, none, false⟩ s.switches ∧
      t.sensors.probe1 = { s.sensors.probe1 with validity := .invalid, run := 0, window := [] } ∧
      t.sensors.probe2 = { s.sensors.probe2 with validity := .invalid, run := 0, window := [] } ∧
      t.sensors.probe3 = { s.sensors.probe3 with validity := .invalid, run := 0, window := [] } ∧
      t.sensors.cavity = s.sensors.cavity ∧ t.sensors.generator = s.sensors.generator ∧
      t.sensors.moisture = s.sensors.moisture ∧
      t.attn = s.attn.clearSource .probe ∧
      (s.life.power = .standby → t.life.wake = some .probe) ∧
      t = { s with
        switches := t.switches, life := t.life, share := t.share, sensors := t.sensors
        attn := t.attn, silence := t.silence } := by
  have hx := event_debounced (i := .plug) (settle := id) (change := probeUnplugged) hl hs
    (by rw [switchOf, hd]; decide) hr
  generalize hb : setSwitches (setSwitch .plug ⟨false, false, none, false⟩ s.switches) s.toBlock = b
    at hx
  have hfin : finishEvent s.toBlock (probeUnplugged b) = probeUnplugged b := by
    refine finishEvent_same ((examined_wake .probe b).trans ?_) ?_
    · rw [← hb]
      rfl
    · unfold probeUnplugged
      rw [wake_eq, ← hb]
      rfl
  rw [hfin] at hx
  have hsensors : (wake .probe b).sensors = s.sensors := by
    rw [wake_eq, ← hb]
    rfl
  have hattn : (wake .probe b).attn = s.attn := by
    rw [wake_eq, ← hb]
    rfl
  refine ⟨_, hx, ?_, ?_, ?_, ?_, ?_, ?_, ?_, ?_, fun hp => ?_, ?_⟩
  · change (wake .probe b).switches = _
    rw [wake_eq, ← hb]
    rfl
  · exact congrArg (fun x : Sensors => x.probe1.unplugged) hsensors
  · exact congrArg (fun x : Sensors => x.probe2.unplugged) hsensors
  · exact congrArg (fun x : Sensors => x.probe3.unplugged) hsensors
  · exact (congrArg Sensors.cavity hsensors :)
  · exact (congrArg Sensors.generator hsensors :)
  · exact (congrArg Sensors.moisture hsensors :)
  · exact congrArg (fun a : Attn => a.clearSource .probe) hattn
  · exact wake_cause .probe (by rw [← hb]; exact hp)
  · refine congrArg s.withBlock ?_
    unfold probeUnplugged
    rw [wake_eq, ← hb]
    rfl

end Sys2Proof.Machine
end

section
/-! SUPPORT. A change of level at its consumers (R43, R48, R66, R71). -/

namespace Sys2Proof.Machine

/-! ### The parts of a level change -/

/-- The new level taken, with its interlock. -/
def levelTaken (new : Level) (b : Block) : Block :=
  followInterlock .dryLevel (decide (new = .dry)) (setGen { b.gen with level := new } b)

/-- The fill ended where it reaches its level. -/
def endReached (new : Level) (b : Block) : Block :=
  if levelEnds .fill b.fill new then endAndDeliver .fill .level b else b

theorem levelChange_same {new : Level} {b : Block} (h : b.gen.level = new) :
    levelChange new b = b := if_pos h

theorem levelChange_eq {new : Level} {b : Block} (h : b.gen.level ≠ new) :
    levelChange new b =
      setChannel .drain (beginRunOn new (endReached new (genLevelChange new (levelTaken new b))).drain)
        (endReached new (genLevelChange new (levelTaken new b))) := if_neg h

theorem levelTaken_eq (new : Level) (b : Block) : levelTaken new b =
    { b with
      gen := { b.gen with level := new }
      share := { b.share with loads := (levelTaken new b).share.loads } } := by
  unfold levelTaken followInterlock
  split <;> rfl

theorem levelTaken_lock (new : Level) (b : Block) :
    (levelTaken new b).share.loads.gen.locks.dryLevel = decide (new = .dry) := by
  unfold levelTaken followInterlock
  split
  next h =>
    have hl := LoadOut.lock_locks .dryLevel b.share.loads.gen
    exact (congrArg LockSet.dryLevel hl).trans h.symm
  next h => exact (Bool.eq_false_iff.mpr h).symm

/-! ### The generator at a change of level (R48) -/

/-- A fill of the generator is in flight. -/
def Block.refilling (b : Block) : Bool := b.fill.inFlight && decide (b.fill.owner = .generator)

theorem refilling_iff (b : Block) :
    b.refilling = true ↔ b.fill.inFlight = true ∧ b.fill.owner = .generator := by
  simp [Block.refilling]

theorem refilling_not_mayFill {b : Block} (h : b.refilling = true) : b.mayFill = false := by
  have hf := ((refilling_iff b).mp h).1
  unfold ChannelRec.inFlight at hf
  unfold Block.mayFill
  cases e : b.fill.state <;> simp_all

theorem claimRefill_eq {b : Block} (h : b.short = true) :
    claimRefill b = if b.mayFill then fillClaimed .refill b else b := by
  unfold claimRefill
  rw [genClaim_fill h]
  cases b.mayFill
  · rfl
  · exact takeImmediateFill_fresh (c := b) rfl

/-- A serving generator at a change of level: at DRY it fills, with the refill in flight or a claimed
one; at LOW it claims a refill unless one is in flight. -/
theorem genLevelChange_serves {new : Level} {b : Block}
    (hs : b.gen.state = .heating ∨ b.gen.state = .ready) (hl : b.gen.level = new) :
    genLevelChange new b =
      if new = .dry then
        if b.refilling then
          setGen { b.gen with state := .filling, held := some .serviceFill } (enterGen .filling b)
        else if b.mayFill then enterGen .filling (fillClaimed .serviceFill b) else b
      else if new = .low then if b.mayFill then fillClaimed .refill b else b
      else b := by
  have hr := refilling_iff b
  have hstart : b.short = true → (startFilling b).getD b =
      if b.mayFill then enterGen .filling (fillClaimed .serviceFill b) else b := fun h => by
    rw [startFilling_eq h]
    cases b.mayFill <;> rfl
  have hgen : (enterGen .filling b).gen = { b.gen with state := .filling } := by rw [enterGen_eq]
  have hsame : genLevelChange new b =
      if new = .dry then
        if b.fill.inFlight ∧ b.fill.owner = .generator then
          setGen { (enterGen .filling b).gen with held := some .serviceFill } (enterGen .filling b)
        else (startFilling b).getD b
      else if new = .low ∧ ¬ (b.fill.inFlight ∧ b.fill.owner = .generator) then claimRefill b
      else b := by
    unfold genLevelChange
    rcases hs with e | e <;> rw [e]
  rw [hsame, hgen]
  by_cases hd : new = .dry
  · have hshort : b.short = true := (short_iff b).mpr (.inl (hl.trans hd))
    rw [if_pos hd, if_pos hd, hstart hshort, if_congr hr.symm rfl rfl]
  by_cases hlow : new = .low
  · have hshort : b.short = true := (short_iff b).mpr (.inr (hl.trans hlow))
    rw [if_neg hd, if_neg hd, if_pos hlow, claimRefill_eq hshort]
    split
    · rfl
    next h =>
      have hx : b.refilling = true := hr.mpr (by simpa [hlow] using h)
      rw [refilling_not_mayFill hx]
      rfl
  · rw [if_neg hd, if_neg hd, if_neg hlow, if_neg fun h => hlow h.1]

theorem genLevelChange_idle {new : Level} {b : Block} (hs : b.gen.state = .idle) :
    genLevelChange new b =
      if b.gen.fillRefused && b.climate.steamWanted then serviceDecision b else b := by
  unfold genLevelChange
  rw [hs]

theorem genLevelChange_other {new : Level} {b : Block} (h1 : b.gen.state ≠ .heating)
    (h2 : b.gen.state ≠ .ready) (h3 : b.gen.state ≠ .idle) : genLevelChange new b = b := by
  unfold genLevelChange
  cases e : b.gen.state <;> simp_all

/-- A generator that rests in IDLE or FAULT did so before. -/
def RestsAs (a b : Block) : Prop :=
  (b.gen.state = .idle → a.gen.state = .idle) ∧ (b.gen.state = .fault → a.gen.state = .fault)

theorem RestsAs.ofState {a b : Block} (h : b.gen.state = a.gen.state) : RestsAs a b :=
  ⟨h.symm.trans, h.symm.trans⟩

theorem RestsAs.entered (a : Block) {st : GenState} (b : Block) (h1 : st ≠ .idle) (h2 : st ≠ .fault) :
    RestsAs a (enterGen st b) :=
  ⟨fun e => absurd ((enterGen_state st b).symm.trans e) h1,
    fun e => absurd ((enterGen_state st b).symm.trans e) h2⟩

/-- What a change of level makes of the generator: it moves it, its row and its fill alone, and to
neither IDLE nor FAULT. -/
structure LevelServed (a b : Block) : Prop where
  frame : b = { a with gen := b.gen, share := b.share, fill := b.fill }
  share : b.share = { a.share with requests := b.share.requests }
  level : b.gen.level = a.gen.level
  rests : RestsAs a b

theorem genLevelChange_served {new : Level} {a : Block} (hl : a.gen.level = new) :
    LevelServed a (genLevelChange new a) := by
  have hrefl : LevelServed a a := ⟨rfl, rfl, rfl, id, id⟩
  by_cases hs : a.gen.state = .heating ∨ a.gen.state = .ready
  · rw [genLevelChange_serves hs hl, enterGen_eq, enterGen_eq]
    split_ifs
    · exact ⟨rfl, rfl, rfl, fun e => GenState.noConfusion e, fun e => GenState.noConfusion e⟩
    · exact ⟨rfl, rfl, rfl, fun e => GenState.noConfusion e, fun e => GenState.noConfusion e⟩
    · exact hrefl
    · exact ⟨rfl, rfl, rfl, id, id⟩
    · exact hrefl
    · exact hrefl
  obtain ⟨h1, h2⟩ := not_or.mp hs
  by_cases h3 : a.gen.state = .idle
  · rw [genLevelChange_idle h3]
    split
    · have hd := serviceDecision_decided a
      refine ⟨hd.frame, hd.share.trans (by rw [hd.share]), by rw [hd.gen], fun _ => h3, fun e => ?_⟩
      rcases hd.state with h | h | h <;> exact GenState.noConfusion (e.symm.trans h)
    · exact hrefl
  · rw [genLevelChange_other h1 h2 h3]
    exact hrefl

/-! ### The fill that reaches its level (R48, R66, R85, R93) -/

theorem RestsAs.genFillEnd (r : EndReason) (b : Block) : RestsAs b (genFillEnd r b) := by
  have hs : (settleFill b).gen.state = b.gen.state := (genState_work b.gen.state).settleFill rfl
  have hstay : ∀ k, RestsAs b (raiseOption k (settleFill b)) := fun k => by
    unfold raiseOption
    split <;> exact ofState hs
  have hgo : ∀ {st : GenState} (c : Block), st ≠ .idle → st ≠ .fault → RestsAs b (enterGen st c) :=
    fun c h1 h2 => entered b c h1 h2
  have hcool : ∀ c, RestsAs b (enterGen .cooling c) := fun c => hgo c (by decide) (by decide)
  have hheat : ∀ c, RestsAs b (enterGen .heating c) := fun c => hgo c (by decide) (by decide)
  have hwait : ∀ c, RestsAs b (enterGen .waitWater c) := fun c => hgo c (by decide) (by decide)
  unfold Machine.genFillEnd
  extract_lets c d
  split
  · exact ofState hs
  · exact ofState hs
  all_goals
    split
    · exact Closed.ite (hcool _) (Closed.ite (hheat _) (hwait _))
    · exact Closed.ite (hcool _) (Closed.ite (hstay _) (hwait _))
    · exact Closed.ite (hcool _) (Closed.ite (hstay _) (hwait _))
    · exact hstay _

theorem descaleFillEnd_phase (r : EndReason) (b : Block) :
    (descaleFillEnd r b).descale.kept.phase = .idle ↔ b.descale.kept.phase = .idle := by
  have hr : (releaseDescale .fill b).descale.kept = b.descale.kept :=
    (kept_work b.descale.kept).releaseDescale .fill rfl
  have hd : ∀ c : Block, (descaleFillDone c).descale.kept.phase = .idle ↔
      c.descale.kept.phase = .idle := fun c => by
    have hg : ∀ w (d : Block), (giveHeater w d).descale.kept = d.descale.kept := fun w d =>
      (kept_work d.descale.kept).giveHeater w rfl
    unfold descaleFillDone
    split
    next e =>
      refine iff_of_false ?_ (by rw [e]; decide)
      unfold enterSoak
      rw [hg]
      exact fun h => DescalePhase.noConfusion h
    next e => exact iff_of_false (fun h => DescalePhase.noConfusion h) (by rw [e]; decide)
    next => exact Iff.rfl
  have hend : (descaleFillDone (releaseDescale .fill b)).descale.kept.phase = .idle ↔
      b.descale.kept.phase = .idle := (hd _).trans (by rw [hr])
  have hwait : ∀ w, (waterWait w (releaseDescale .fill b)).descale.kept.phase = .idle ↔
      b.descale.kept.phase = .idle := fun w => by
    change (releaseDescale .fill b).descale.kept.phase = .idle ↔ _
    rw [hr]
  unfold descaleFillEnd
  extract_lets dry c
  split
  · exact hend
  · split
    · exact hwait _
    · exact hend
  · exact hwait _
  · exact hwait _
  all_goals exact (by rw [hr] : (releaseDescale .fill b).descale.kept.phase = .idle ↔ _)

/-- What the end of a fill leaves as it was, whoever holds it. -/
structure FillDelivered (a b : Block) : Prop where
  outside : SameOutside a b
  core : SameCore a b
  phase : b.descale.kept.phase = .idle ↔ a.descale.kept.phase = .idle
  rests : RestsAs a b

theorem endReached_delivered (new : Level) (a : Block) : FillDelivered a (endReached new a) := by
  have hrefl : FillDelivered a a := ⟨rfl, SameCore.refl a, Iff.rfl, id, id⟩
  unfold endReached endAndDeliver deliverEnd
  split
  · split
    · have hw := SameOutside.work a
      have hc := SameCore.closed a
      have hout : SameOutside a (endTransfer .fill .level a) := hw.ended _ _ rfl
      have hcore : SameCore a (endTransfer .fill .level a) := hc.ended _ _ _ (SameCore.refl a)
      have hstate : (endTransfer .fill .level a).gen.state = a.gen.state :=
        (genState_work a.gen.state).ended _ _ rfl
      have hkept : (endTransfer .fill .level a).descale.kept = a.descale.kept :=
        (kept_work a.descale.kept).ended _ _ rfl
      split
      next =>
        have hk : (genFillEnd .level (endTransfer .fill .level a)).descale.kept = a.descale.kept := by
          have hkw : WaterWork True False fun b => b.descale.kept = a.descale.kept :=
            kept_work a.descale.kept
          exact hkw.genFillEnd trivial _ hkept
        have hr := RestsAs.genFillEnd .level (endTransfer .fill .level a)
        unfold RestsAs at hr
        rw [hstate] at hr
        exact ⟨hw.genFillEnd trivial _ hout, genFillEnd_closed hc _ hcore, by rw [hk], hr⟩
      next e => cases e
      next =>
        have hs : (descaleFillEnd .level (endTransfer .fill .level a)).gen.state = a.gen.state :=
          (genState_work a.gen.state).descaleFillEnd trivial _ hstate
        have hp := descaleFillEnd_phase .level (endTransfer .fill .level a)
        rw [hkept] at hp
        exact ⟨hw.descaleFillEnd trivial _ hout, descaleFillEnd_closed hc _ hcore, hp,
          .ofState hs⟩
      next e => cases e
      next =>
        exact ⟨hout, hcore, by rw [hkept], .ofState hstate⟩
    · exact hrefl
  · exact hrefl

end Sys2Proof.Machine
end

section
/-! SUPPORT. The level electrodes (R43, R165, R167). -/

namespace Sys2Proof.Machine

/-- What a level that changes makes of a part: the generator's, the channels' and the procedure's own
work, the DRY_LEVEL lock; the generator enters neither IDLE nor FAULT. -/
structure LevelChanged (new : Level) (a b : Block) : Prop where
  outside : SameOutside a b
  level : b.gen.level = new
  lock : b.share.loads.gen.locks.dryLevel = decide (new = .dry)
  phase : b.descale.kept.phase = .idle ↔ a.descale.kept.phase = .idle
  rests : RestsAs a b

theorem levelChange_changed {new : Level} {a : Block} (h : a.gen.level ≠ new) :
    LevelChanged new a (levelChange new a) := by
  rw [levelChange_eq h]
  have hd := levelTaken_eq new a
  have hlock := levelTaken_lock new a
  have hs := genLevelChange_served (new := new) (a := levelTaken new a) (by rw [hd])
  have he := endReached_delivered new (genLevelChange new (levelTaken new a))
  generalize levelTaken new a = d at hd hlock hs he ⊢
  generalize genLevelChange new d = e at hs he ⊢
  generalize endReached new e = f at he ⊢
  have hout : SameOutside a f := by
    have ho := he.outside
    unfold SameOutside at ho ⊢
    rw [ho, hs.frame, hd]
  have hlevel : e.gen.level = new := hs.level.trans (by rw [hd])
  have hloads : e.share.loads = d.share.loads := by rw [hs.share]
  have hphase : e.descale.kept.phase = a.descale.kept.phase := by rw [hs.frame, hd]
  have hstate : d.gen.state = a.gen.state := by rw [hd]
  refine ⟨(SameOutside.work a).channel _ _ _ hout, he.core.level.trans hlevel, ?_, ?_, ?_⟩
  · exact (congrArg (fun x : PerLoad LoadOut => x.gen.locks.dryLevel)
      (he.core.loads.trans hloads)).trans hlock
  · exact he.phase.trans (by rw [hphase])
  · exact ⟨fun h => hstate ▸ hs.rests.1 (he.rests.1 h), fun h => hstate ▸ hs.rests.2 (he.rests.2 h)⟩

theorem followLevelFault_eq (b : Block) :
    followLevelFault b = setAttn (followLevelFault b).attn b := by
  unfold followLevelFault
  split <;> rfl

/-- The part with an electrode's debounced state taken, and SENSOR_FAULT following it. -/
def electrodeTaken (e : Electrode) (wet : Bool) (b : Block) : Block :=
  followLevelFault (setSwitches (setSwitch (.electrode e) ⟨wet, wet, none, false⟩ b.switches) b)

theorem electrodeTaken_eq (e : Electrode) (wet : Bool) (b : Block) : electrodeTaken e wet b =
    { b with
      switches := setSwitch (.electrode e) ⟨wet, wet, none, false⟩ b.switches
      attn := (electrodeTaken e wet b).attn } := followLevelFault_eq _

theorem electrodeChanged_eq (e : Electrode) (wet : Bool) (b : Block) :
    electrodeChanged
        (setSwitches (setSwitch (.electrode e) ⟨wet, wet, none, false⟩ b.switches) b) =
      levelChange (derivedLevel (electrodeTaken e wet b).switches) (electrodeTaken e wet b) := rfl

theorem doorOpen_electrode {e : Electrode} {x : Switch} {a b : Block}
    (h : b.switches = setSwitch (.electrode e) x a.switches) : doorOpen b = doorOpen a := by
  unfold doorOpen
  rw [h]
  cases e <;> rfl

/-- An electrode's change outside the level changes nothing that the end of an event examines. -/
theorem electrodeTaken_unmoved (e : Electrode) (wet : Bool) (b : Block) :
    Unmoved b (electrodeTaken e wet b) := by
  have he := electrodeTaken_eq e wet b
  exact
    { door := doorOpen_electrode (congrArg Block.switches he)
      climate := by rw [he]
      run := by rw [he]
      phase := by rw [he]
      idle := by rw [he]; exact id
      fault := by rw [he]; exact id }

theorem LevelChanged.unmoved {new : Level} {a b c : Block} (h : LevelChanged new b c)
    (hb : Unmoved a b) : Unmoved a c := by
  have ho := h.outside
  exact
    { door := (by rw [ho]; rfl : doorOpen c = doorOpen b).trans hb.door
      climate := (by rw [ho] : c.climate.state = b.climate.state).trans hb.climate
      run := (by rw [ho] : c.run.state = b.run.state).trans hb.run
      phase := h.phase.trans hb.phase
      idle := fun e => hb.idle (h.rests.1 e)
      fault := fun e => hb.fault (h.rests.2 e) }

/-- An electrode's change ends with the store alone; a SCALE write that it queues waits on. -/
theorem electrodeChange_exec {e : Electrode} {wet : Bool} {s : State} (hl : live s.toBlock = true)
    (hs : s.life.settling = none) (hd : (switchOf s.switches (.electrode e)).deb ≠ wet)
    (hr : (switchOf s.switches (.electrode e)).raw = wet) :
    ∃ r, exec (.electrodeChange e wet) s = .next (s.withBlock (setStore r
        (levelChange (derivedLevel (electrodeTaken e wet s.toBlock).switches)
          (electrodeTaken e wet s.toBlock)))) ∧
      ∀ b, b = levelChange (derivedLevel (electrodeTaken e wet s.toBlock).switches)
          (electrodeTaken e wet s.toBlock) →
        b.store.Awaits (.scale b.gen.account) → r.Awaits (.scale b.gen.account) := by
  have hx := event_debounced (settle := electrodeSettled) (change := electrodeChanged) hl hs hd hr
  rw [electrodeChanged_eq] at hx
  have ht := electrodeTaken_unmoved e wet s.toBlock
  have hlife : (electrodeTaken e wet s.toBlock).life = s.life := by rw [electrodeTaken_eq]
  set a := electrodeTaken e wet s.toBlock
  have hend : finishEvent s.toBlock (levelChange (derivedLevel a.switches) a) = setStore
      (finishEvent s.toBlock (levelChange (derivedLevel a.switches) a)).store
      (levelChange (derivedLevel a.switches) a) := by
    have hf := live_flushes hl
    by_cases hn : a.gen.level = derivedLevel a.switches
    · rw [levelChange_same hn]
      exact ht.finishEvent (by rw [hlife]; exact hf)
    · have hc := levelChange_changed hn
      refine (hc.unmoved ht).finishEvent ?_
      rw [hc.outside, hlife]
      exact hf
  refine ⟨_, hx.trans (congrArg (fun c => Host.Outcome.next (s.withBlock c)) hend), ?_⟩
  rintro b rfl hw
  exact hw.finished s.toBlock (fun e => RecordName.noConfusion e) fun _ => rfl

theorem derivedLevel_eq (w : Switches) : derivedLevel w =
    if w.eLow.deb = false then .dry
    else if w.eNormal.deb = false then .low
    else if w.eHigh.deb = false then .normal else .high := by
  unfold derivedLevel
  simp only [Bool.not_eq_true']

/-- An electrode's change that changes its debounced state (R43, R167). -/
theorem electrodeChange_acts {s : State} (hl : live s.toBlock = true) (hs : s.life.settling = none)
    (e : Electrode) (wet : Bool) (hd : (switchOf s.switches (.electrode e)).deb ≠ wet)
    (hr : (switchOf s.switches (.electrode e)).raw = wet) :
    ∃ t, exec (.electrodeChange e wet) s = .next t ∧
      t.switches = setSwitch (.electrode e) ⟨wet, wet, none, false⟩ s.switches ∧
      t.gen.level =
        (if t.switches.eLow.deb = false then .dry
         else if t.switches.eNormal.deb = false then .low
         else if t.switches.eHigh.deb = false then .normal else .high) ∧
      (t.gen.level ≠ s.gen.level →
        t.share.loads.gen.locks.dryLevel = decide (t.gen.level = .dry)) ∧
      t = { s with
        switches := t.switches, gen := t.gen, share := t.share, fill := t.fill
        drain := t.drain, descale := t.descale, attn := t.attn, store := t.store } := by
  obtain ⟨r, hx, -⟩ := electrodeChange_exec hl hs hd hr
  have ha := electrodeTaken_eq e wet s.toBlock
  have hlevel : (electrodeTaken e wet s.toBlock).gen.level = s.gen.level := by rw [ha]
  generalize electrodeTaken e wet s.toBlock = a at hx ha hlevel
  refine ⟨_, hx, ?_⟩
  by_cases hn : a.gen.level = derivedLevel a.switches
  · rw [levelChange_same hn]
    refine ⟨congrArg Block.switches ha, ?_, ?_, ?_⟩
    · exact hn.trans (derivedLevel_eq _)
    · exact fun h => absurd hlevel h
    · refine congrArg s.withBlock ?_
      rw [ha]
      rfl
  · have hc := levelChange_changed hn
    generalize levelChange (derivedLevel a.switches) a = c at hc ⊢
    have hsw : c.switches = a.switches := by rw [hc.outside]
    refine ⟨hsw.trans (congrArg Block.switches ha), ?_, fun _ => ?_, ?_⟩
    · exact (hc.level.trans (by rw [hsw])).trans (derivedLevel_eq c.switches)
    · change c.share.loads.gen.locks.dryLevel = decide (c.gen.level = .dry)
      rw [hc.lock, hc.level]
    · refine congrArg s.withBlock ?_
      have ho := hc.outside
      unfold SameOutside at ho
      rw [ho, ha]
      rfl

/-- Settles O57: a change that is none leaves the part, each other one is its consumer's work and the
end of its event. -/
theorem tankPlugAndElectrodesAct : Obligations.TankPlugAndElectrodesAct := by
  intro s hl hs kept tank plug
  refine ⟨⟨fun h => ?_, fun h => ?_, fun h => ?_, fun h => ?_, fun e wet h => ?_⟩,
    tankInsertion_acts hl hs, tankRemoval_acts hl hs, plugIn_acts hl hs, unplug_acts hl hs,
    electrodeChange_acts hl hs⟩
  · exact event_debounced_none hl hs (h.imp id (ne_true_of_eq_false ·))
  · exact event_debounced_none hl hs (h.imp id fun e f => Bool.noConfusion (e.symm.trans f))
  · exact event_debounced_none hl hs (h.imp id (ne_true_of_eq_false ·))
  · exact event_debounced_none hl hs (h.imp id fun e f => Bool.noConfusion (e.symm.trans f))
  · exact event_debounced_none hl hs h

end Sys2Proof.Machine
end

section
/-! SUPPORT. The end of a fill that the generator holds (R46, R48, R59, R62, R70). -/

namespace Sys2Proof.Machine

/-! ### The account of an ended fill (R46, R59) -/

/-- The account with the fill in flight added. -/
def Block.filledAccount (b : Block) : ScaleRec :=
  b.gen.account.addFill b.settings (b.fill.flow * b.settings.prescale)

theorem followScale_eq (b : Block) : followScale b = setAttn (followScale b).attn b := by
  unfold followScale followCondition
  split <;> split <;> rfl

theorem accountFill_eq (b : Block) : accountFill b =
    { b with
      gen := { b.gen with account := b.filledAccount }
      attn := (accountFill b).attn
      store := (queueWrite (.scale b.filledAccount) b).store } := followScale_eq _

theorem release_ended {c : Channel} {o : Owner} {b : Block} (hs : (b.channel c).state = .ended)
    (ho : (b.channel c).owner = o) : release c o b =
      setChannel c { b.channel c with state := .idle, owner := .none } b := if_pos ⟨hs, ho⟩

theorem settleFill_eq {b : Block} (hs : b.fill.state = .ended) (ho : b.fill.owner = .generator) :
    settleFill b =
      { b with
        gen := { b.gen with account := b.filledAccount, held := none }
        fill := { b.fill with state := .idle, owner := .none }
        attn := (settleFill b).attn
        store := (queueWrite (.scale b.filledAccount) b).store } := by
  have ha := accountFill_eq b
  have hf : (accountFill b).fill = b.fill := by rw [ha]
  have e : settleFill b = setGen { (release .fill .generator (accountFill b)).gen with held := none }
      (release .fill .generator (accountFill b)) := by
    unfold settleFill
    rw [if_pos ho]
  rw [e, release_ended (by rw [Block.channel, hf]; exact hs) (by rw [Block.channel, hf]; exact ho), ha]
  rfl

/-- The generator's fill ended, accounted and released. -/
def fillSettled (e : EndReason) (b : Block) : Block := settleFill (endTransfer .fill e b)

theorem fillSettled_eq {b : Block} (h : b.refilling = true) (e : EndReason) : fillSettled e b =
    { b with
      gen := { b.gen with account := b.filledAccount, held := none }
      fill := { b.fill with
        state := .idle, owner := .none, endReason := some e, levelAtEnd := some b.gen.level }
      attn := (fillSettled e b).attn
      store := (queueWrite (.scale b.filledAccount) b).store } := by
  obtain ⟨hf, ho⟩ := (refilling_iff b).mp h
  have hend : endTransfer .fill e b = setChannel .fill (b.fill.finish e b.gen.level) b := if_pos hf
  have hs := settleFill_eq (b := setChannel .fill (b.fill.finish e b.gen.level) b) rfl ho
  unfold fillSettled
  rw [hend, hs]
  rfl

theorem stopFill_eq (b : Block) :
    stopFill b = if b.refilling then fillSettled .stopped b else b :=
  if_congr (refilling_iff b).symm rfl rfl

/-! ### What follows the end (R48, R62, R70) -/

/-- What the end of a fill leaves and accounts, in the part whose fill ends. -/
structure FillKept (e : EndReason) (a b : Block) : Prop where
  frame : b = { a with
    gen := b.gen, share := b.share, fill := b.fill, attn := b.attn, store := b.store }
  share : b.share = { a.share with requests := b.share.requests }
  account : b.gen.account = a.filledAccount
  held : b.gen.held = none
  level : b.gen.level = a.gen.level
  fill : b.fill = { a.fill with
    state := .idle, owner := .none, endReason := some e, levelAtEnd := some a.gen.level }
  written : b.store.Awaits (.scale b.gen.account)
  raised : ∀ k, e.attention = some k → b.attn.has k = true

theorem FillKept.entered {e : EndReason} {a b : Block} (h : FillKept e a b) (st : GenState) :
    FillKept e a (enterGen st b) := by
  have hf := h.frame
  rw [enterGen_eq]
  exact ⟨by rw [hf], by rw [h.share], h.account, h.held, h.level, h.fill, h.written, h.raised⟩

/-- What the end of a fill makes of a serving generator. -/
structure FillEnded (e : EndReason) (a b : Block) : Prop extends FillKept e a b where
  locked : steamLock b = true → b.gen.state = .cooling ∧ b.share.requests.gen.watts = 0
  filled : steamLock b = false → e = .level → a.gen.state = .filling →
    b.gen.state = .heating ∧ b.share.requests.gen = ⟨genRating a, b.gen.prio⟩
  stays : steamLock b = false → e = .level → a.gen.state ≠ .filling →
    b.gen.state = a.gen.state ∧ b.share.requests = a.share.requests
  waits : steamLock b = false → e ≠ .level →
    b.gen.state = .waitWater ∧ b.share.requests.gen.watts = 0

/-- FILLING, HEATING or READY. -/
def Block.serving (b : Block) : Prop :=
  b.gen.state = .filling ∨ b.gen.state = .heating ∨ b.gen.state = .ready

/-- A fill ends for the generator by its level, its count, a missing flow or a lost source. -/
def EndReason.ofGenerator (e : EndReason) : Prop := e ≠ .stopped ∧ e ≠ .interlock

/-- The ended fill settled, its attention raised. -/
def fillReported (e : EndReason) (b : Block) : Block :=
  raiseOption e.attention (fillSettled e b)

theorem fillReported_eq {b : Block} (h : b.refilling = true) (e : EndReason) : fillReported e b =
    { b with
      gen := { b.gen with account := b.filledAccount, held := none }
      fill := { b.fill with
        state := .idle, owner := .none, endReason := some e, levelAtEnd := some b.gen.level }
      attn := (fillReported e b).attn
      store := (queueWrite (.scale b.filledAccount) b).store } := by
  have hr : fillReported e b = setAttn (fillReported e b).attn (fillSettled e b) := by
    unfold fillReported raiseOption
    split <;> rfl
  rw [hr, fillSettled_eq h]
  rfl

theorem fillReported_has {e : EndReason} {k : AttnKind} (h : e.attention = some k) (b : Block) :
    (fillReported e b).attn.has k = true := by
  unfold fillReported
  rw [h]
  exact (has_raiseAttn _ _ _ _).mpr (.inl rfl)

/-- A serving generator goes to COOLING under the lock, and else on as the fill's end says. -/
theorem genFillEnd_eq {e : EndReason} (he : e.ofGenerator) {b : Block}
    (hs : (fillReported e b).serving) :
    genFillEnd e (endTransfer .fill e b) =
      if steamLock (fillReported e b) then enterGen .cooling (fillReported e b)
      else if e = .level then
        if (fillReported e b).gen.state = .filling then enterGen .heating (fillReported e b)
        else fillReported e b
      else enterGen .waitWater (fillReported e b) := by
  obtain ⟨h1, h2⟩ := he
  unfold fillReported fillSettled at *
  unfold genFillEnd
  cases e
  case stopped => exact absurd rfl h1
  case interlock => exact absurd rfl h2
  all_goals rcases hs with h | h | h <;> simp only [h] <;> rfl

theorem fillReported_kept {e : EndReason} {a : Block} (h : a.refilling = true) :
    FillKept e a (fillReported e a) := by
  have hrep := fillReported_eq h e
  have hraised := fun k (hk : e.attention = some k) => fillReported_has hk a
  generalize fillReported e a = r at hrep hraised ⊢
  have hacc : r.gen.account = a.filledAccount := by rw [hrep]
  have hstore : r.store = (queueWrite (.scale a.filledAccount) a).store := by rw [hrep]
  exact
    { frame := by rw [hrep]
      share := by rw [hrep]
      account := hacc
      held := by rw [hrep]
      level := by rw [hrep]
      fill := by rw [hrep]
      written := by
        rw [hstore, hacc]
        exact awaits_queueWrite _ _
      raised := hraised }

theorem steamLock_enterGen (st : GenState) (b : Block) : steamLock (enterGen st b) = steamLock b := by
  rw [enterGen_eq]
  rfl

theorem fillEnded {e : EndReason} (he : e.ofGenerator) {a : Block} (h : a.refilling = true)
    (hs : a.serving) : FillEnded e a (genFillEnd e (endTransfer .fill e a)) := by
  have hkept := fillReported_kept (e := e) h
  have hrep := fillReported_eq h e
  have hstate : (fillReported e a).gen.state = a.gen.state := by rw [hrep]
  have hreq : (fillReported e a).share.requests = a.share.requests := by rw [hrep]
  have hrating : genRating (fillReported e a) = genRating a := by rw [hrep]; rfl
  rw [genFillEnd_eq he (by unfold Block.serving; rwa [hstate]), hstate]
  generalize fillReported e a = r at hkept hstate hreq hrating ⊢
  have hrow : ∀ st, (enterGen st r).share.requests.gen = enteredRow st r := fun st => by
    rw [enterGen_eq]
  have hprio : ∀ st, (enterGen st r).gen.prio = r.gen.prio := fun st => by rw [enterGen_eq]
  have hwatts : ∀ st, enteredRow st r = ⟨0, r.share.requests.gen.prio⟩ →
      (enterGen st r).gen.state = st ∧ (enterGen st r).share.requests.gen.watts = 0 := fun st h =>
    ⟨enterGen_state st r, congrArg Row.watts ((hrow st).trans h)⟩
  by_cases hk : steamLock r = true
  · have hl := (steamLock_enterGen .cooling r).trans hk
    rw [if_pos hk]
    exact
      { hkept.entered .cooling with
        locked := fun _ => hwatts .cooling rfl
        filled := fun e => Bool.noConfusion (e.symm.trans hl)
        stays := fun e => Bool.noConfusion (e.symm.trans hl)
        waits := fun e => Bool.noConfusion (e.symm.trans hl) }
  rw [if_neg hk]
  by_cases hlev : e = .level
  · rw [if_pos hlev]
    split
    next hf =>
      exact
        { hkept.entered .heating with
          locked := fun e => absurd ((steamLock_enterGen _ r).symm.trans e) hk
          filled := fun _ _ _ => ⟨enterGen_state _ r, by
            rw [hrow, hprio, ← hrating]
            rfl⟩
          stays := fun _ _ h => absurd hf h
          waits := fun _ h => absurd hlev h }
    next hf =>
      exact
        { hkept with
          locked := fun e => absurd e hk
          filled := fun _ _ h => absurd h hf
          stays := fun _ _ _ => ⟨hstate, hreq⟩
          waits := fun _ h => absurd hlev h }
  · rw [if_neg hlev]
    exact
      { hkept.entered .waitWater with
        locked := fun e => absurd ((steamLock_enterGen _ r).symm.trans e) hk
        filled := fun _ h => absurd h hlev
        stays := fun _ h => absurd h hlev
        waits := fun _ _ => hwatts .waitWater rfl }

end Sys2Proof.Machine
end

section
/-! SUPPORT. The generator keeps its water (R46, R48, R58, R59, R62, R70). -/

namespace Sys2Proof.Machine

/-! ### The end of the generator's fill, as the whole event leaves it -/

/-- What the end of the generator's fill leaves of a part, at the end of its event (O34). -/
def FilledAs (e : EndReason) (s t : Block) : Prop :=
  let locked : Bool :=
    s.descale.kept.rinseOwed || decide (lockThreshold s.straps.cavity ≤ t.gen.account.scale)
  t.gen.account = s.gen.account.addFill s.settings (s.fill.flow * s.settings.prescale) ∧
  .scale t.gen.account ∈ t.store.inFlight.toList ++ t.store.queue ∧ t.gen.held = none ∧
  t.fill =
    { s.fill with
      state := .idle, owner := .none, endReason := some e, levelAtEnd := some t.gen.level } ∧
  (locked = true → t.gen.state = .cooling ∧ t.share.requests.gen.watts = 0) ∧
  (locked = false → e = .level →
    (s.gen.state = .filling → t.gen.state = .heating ∧
      t.share.requests.gen = ⟨(rating s.straps.cavity).gen, t.gen.prio⟩) ∧
    (s.gen.state ≠ .filling → t.gen.state = s.gen.state ∧
      t.share.requests = s.share.requests)) ∧
  (locked = false → e ≠ .level →
    t.gen.state = .waitWater ∧ t.share.requests.gen.watts = 0) ∧
  (e = .count ∨ e = .noFlow → t.attn.has .tankEmpty = true) ∧
  (e = .sourceLost → t.attn.has .tankMissing = true) ∧
  t.drain = s.drain ∧ t.climate = s.climate ∧ t.run = s.run ∧ t.descale = s.descale

/-- The part differs from another in its level, its locks, its switches and its entries alone. -/
def SameService (s a : Block) : Prop :=
  a = { s with
    gen := { s.gen with level := a.gen.level }, share := { s.share with loads := a.share.loads }
    switches := a.switches, attn := a.attn }

theorem FillEnded.filledAs {e : EndReason} {s a b t : Block} (h : FillEnded e a b)
    (hs : SameService s a) (ht : t = setStore t.store b)
    (hw : t.store.Awaits (.scale b.gen.account)) : FilledAs e s t := by
  unfold FilledAs
  extract_lets locked
  unfold SameService at hs
  have hf := h.frame
  have hgen : t.gen = b.gen := (congrArg Block.gen ht).trans rfl
  have hshare : t.share = b.share := (congrArg Block.share ht).trans rfl
  have hattn : t.attn = b.attn := (congrArg Block.attn ht).trans rfl
  have hlock : locked = steamLock b := by
    have e1 : b.descale.kept.rinseOwed = s.descale.kept.rinseOwed := by rw [hf, hs]
    have e2 : b.straps = s.straps := by rw [hf, hs]
    unfold locked steamLock lockByScale
    rw [hgen, e1, e2, Bool.or_comm]
  have hstate : a.gen.state = s.gen.state := by rw [hs]
  have hreq : a.share.requests = s.share.requests := by rw [hs]
  have hrating : genRating a = (rating s.straps.cavity).gen := by rw [hs]; rfl
  have hacc : a.filledAccount = s.filledAccount := by rw [hs]; rfl
  rw [hlock, hgen, hshare, hattn]
  refine ⟨h.account.trans hacc, hw.mem, h.held, ?_, h.locked, fun hl he => ⟨fun hst => ?_,
    fun hst => ?_⟩, h.waits, fun he => ?_, fun he => h.raised _ (by rw [he]; rfl), ?_, ?_, ?_, ?_⟩
  · have hfill : t.fill = b.fill := (congrArg Block.fill ht).trans rfl
    rw [hfill, h.fill, h.level, hs]
  · rw [← hrating]
    exact h.filled hl he (hstate.trans hst)
  · rw [← hstate, ← hreq]
    exact h.stays hl he (hstate ▸ hst)
  · rcases he with he | he <;> exact h.raised _ (by rw [he]; rfl)
  · exact (congrArg Block.drain ht).trans (by rw [hf, hs] : b.drain = s.drain)
  · exact (congrArg Block.climate ht).trans (by rw [hf, hs] : b.climate = s.climate)
  · exact (congrArg Block.run ht).trans (by rw [hf, hs] : b.run = s.run)
  · exact (congrArg Block.descale ht).trans (by rw [hf, hs] : b.descale = s.descale)

/-! ### The fill that ends by its count, its flow or its source (R69, R70, R77) -/

theorem endAndDeliver_fill {b : Block} (h : b.refilling = true) (e : EndReason) :
    endAndDeliver .fill e b = genFillEnd e (endTransfer .fill e b) := by
  obtain ⟨hf, ho⟩ := (refilling_iff b).mp h
  have hend : endTransfer .fill e b = setChannel .fill (b.fill.finish e b.gen.level) b := if_pos hf
  have howner : ((endTransfer .fill e b).channel .fill).owner = .generator := by
    rw [hend]
    exact ho
  refine (if_pos hf).trans ?_
  unfold deliverEnd
  rw [howner]

theorem FillKept.unmoved {e : EndReason} {a b : Block} (h : FillKept e a b) (hr : RestsAs a b) :
    Unmoved a b := by
  have hf := h.frame
  exact
    { door := by rw [hf]; rfl
      climate := by rw [hf]
      run := by rw [hf]
      phase := by rw [hf]
      idle := hr.1
      fault := hr.2 }

theorem Unmoved.trans {a b c : Block} (h : Unmoved a b) (g : Unmoved b c) : Unmoved a c where
  door := g.door.trans h.door
  climate := g.climate.trans h.climate
  run := g.run.trans h.run
  phase := g.phase.trans h.phase
  idle e := h.idle (g.idle e)
  fault e := h.fault (g.fault e)

/-- The end of a fill of a serving generator, with the end of its event. -/
theorem fillEnd_filledAs {e : EndReason} (he : e.ofGenerator) {s a : Block} (hl : live s = true)
    (hu : Unmoved s a) (hlife : a.life = s.life) (hr : a.refilling = true) (hs : a.serving) :
    FilledAs e a (finishEvent s (endAndDeliver .fill e a)) := by
  have hend := fillEnded he hr hs
  have hrests : RestsAs a (genFillEnd e (endTransfer .fill e a)) := by
    have hstate : (endTransfer .fill e a).gen.state = a.gen.state :=
      (genState_work a.gen.state).ended _ _ rfl
    have h := RestsAs.genFillEnd e (endTransfer .fill e a)
    unfold RestsAs at h ⊢
    rwa [hstate] at h
  rw [endAndDeliver_fill hr]
  generalize genFillEnd e (endTransfer .fill e a) = b at hend hrests ⊢
  have hflush : b.life.flush = .none := by
    rw [hend.frame, hlife]
    exact live_flushes hl
  refine hend.filledAs rfl ((hu.trans (hend.unmoved hrests)).finishEvent hflush) ?_
  exact hend.written.finished s (fun e => RecordName.noConfusion e) fun _ => rfl

theorem pacing_ends {c : Channel} {e : EndReason} {b : Block} (hs : (b.channel c).state = .active)
    (he : pacingEnd c (b.channel c) = some e) : pacing c b = endAndDeliver c e b := by
  unfold pacing
  extract_lets r
  rw [if_pos hs, he]

theorem pauseTimeout_ends {c : Channel} {b : Block} (hs : (b.channel c).state = .paused) :
    pauseTimeout c b =
      endAndDeliver c .sourceLost (setChannel c { b.channel c with pauseMs := 120000 } b) :=
  if_pos hs

theorem refilling_of {b : Block} (hs : b.fill.state = .active ∨ b.fill.state = .paused)
    (ho : b.fill.owner = .generator) : b.refilling = true := by
  refine (refilling_iff b).mpr ⟨?_, ho⟩
  rcases hs with e | e <;> simp [ChannelRec.inFlight, e]

/-- A fill of a serving generator whose pacing ends it. -/
theorem pacing_filledAs {e : EndReason} (he : e.ofGenerator) {s : State}
    (hl : live s.toBlock = true) (hs : s.toBlock.serving) (ho : s.fill.owner = .generator)
    (ha : s.fill.state = .active) (hp : pacingEnd .fill s.fill = some e) :
    ∃ t, exec (.pacingExpiry .fill) s = .next t ∧ FilledAs e s.toBlock t.toBlock := by
  have hx : event (pacing .fill) s.toBlock =
      finishEvent s.toBlock (endAndDeliver .fill e s.toBlock) := by
    rw [event_live hl, pacing_ends (c := .fill) (b := s.toBlock) ha hp]
  refine ⟨_, onBlock_eq hx, ?_⟩
  exact fillEnd_filledAs he hl ⟨rfl, rfl, rfl, Iff.rfl, id, id⟩ rfl (refilling_of (.inl ha) ho) hs

/-- A fill of a serving generator whose source stays away. -/
theorem pauseTimeout_filledAs {s : State} (hl : live s.toBlock = true) (hs : s.toBlock.serving)
    (ho : s.fill.owner = .generator) (ha : s.fill.state = .paused) :
    ∃ t, exec (.pauseTimeout .fill) s = .next t ∧
      FilledAs .sourceLost { s.toBlock with fill := { s.fill with pauseMs := t.fill.pauseMs } }
        t.toBlock := by
  have hx : event (pauseTimeout .fill) s.toBlock = finishEvent s.toBlock
      (endAndDeliver .fill .sourceLost
        (setChannel .fill { s.fill with pauseMs := 120000 } s.toBlock)) := by
    rw [event_live hl, pauseTimeout_ends (c := .fill) (b := s.toBlock) ha]
    rfl
  have h := fillEnd_filledAs (e := .sourceLost) ⟨by decide, by decide⟩ hl
    (a := setChannel .fill { s.fill with pauseMs := 120000 } s.toBlock)
    ⟨rfl, rfl, rfl, Iff.rfl, id, id⟩ rfl (refilling_of (.inr ha) ho) hs
  refine ⟨_, onBlock_eq hx, ?_⟩
  generalize finishEvent s.toBlock (endAndDeliver .fill .sourceLost
        (setChannel .fill { s.fill with pauseMs := 120000 } s.toBlock)) = t at h
  have hms : t.fill.pauseMs = 120000 := congrArg ChannelRec.pauseMs h.2.2.2.1
  change FilledAs .sourceLost { s.toBlock with fill := { s.fill with pauseMs := t.fill.pauseMs } } t
  rw [hms]
  exact h

/-! ### A change of level (R48) -/

theorem levelEnds_normal {r : ChannelRec} (hm : r.mode = .destSync) (ht : r.target = some .normal)
    (l : Level) : levelEnds .fill r l = (r.inFlight && decide (2 ≤ l.rank)) := by
  unfold levelEnds
  rw [hm, ht]
  cases r.inFlight <;> rfl

/-- A fill that the new level does not end leaves what the generator has made of the level. -/
theorem levelChange_unended {new : Level} {a : Block} (h : a.gen.level ≠ new)
    (he : levelEnds .fill (genLevelChange new (levelTaken new a)).fill new = false) :
    (levelChange new a).gen = (genLevelChange new (levelTaken new a)).gen ∧
      (levelChange new a).share = (genLevelChange new (levelTaken new a)).share ∧
      (levelChange new a).fill = (genLevelChange new (levelTaken new a)).fill := by
  have hr : endReached new (genLevelChange new (levelTaken new a)) =
      genLevelChange new (levelTaken new a) := if_neg (ne_true_of_eq_false he)
  rw [levelChange_eq h, hr]
  exact ⟨rfl, rfl, rfl⟩

/-- The generator's own fill to NORMAL is in flight. -/
def Block.ownFill (b : Block) : Bool :=
  b.fill.inFlight && decide (b.fill.owner = .generator) && decide (b.fill.mode = .destSync) &&
    decide (b.fill.target = some .normal)

theorem ownFill_iff (b : Block) : b.ownFill = true ↔
    b.refilling = true ∧ b.fill.mode = .destSync ∧ b.fill.target = some .normal := by
  simp [Block.ownFill, Block.refilling, and_assoc]

theorem levelTaken_service (new : Level) (a : Block) : SameService a (levelTaken new a) := by
  unfold SameService
  rw [levelTaken_eq]

theorem SameService.trans {a b c : Block} (h : SameService a b) (g : SameService b c) :
    SameService a c := by
  unfold SameService at *
  rw [g, h]

theorem electrodeTaken_service (e : Electrode) (wet : Bool) (b : Block) :
    SameService b (electrodeTaken e wet b) := by
  unfold SameService
  rw [electrodeTaken_eq]

/-- Above its target the generator has nothing to claim. -/
theorem genLevelChange_full {new : Level} {b : Block} (hs : b.serving) (hl : b.gen.level = new)
    (hn : b.short = false) : genLevelChange new b = b := by
  have hd : new ≠ .dry ∧ new ≠ .low := by
    constructor <;> rintro rfl <;> simp [Block.short, hl] at hn
  rcases hs with h | h
  · exact genLevelChange_other (by rw [h]; decide) (by rw [h]; decide) (by rw [h]; decide)
  · rw [genLevelChange_serves h hl, if_neg hd.1, if_neg hd.2]

/-- A level at or above the target ends the generator's own fill. -/
theorem levelChange_filled {new : Level} {a : Block} (h : a.gen.level ≠ new) (hs : a.serving)
    (ho : a.ownFill = true) (hn : new = .normal ∨ new = .high) :
    ∃ b, levelChange new a = b ∧ FillEnded .level (levelTaken new a) b := by
  obtain ⟨hr, hm, ht⟩ := (ownFill_iff a).mp ho
  have hd := levelTaken_eq new a
  generalize hde : levelTaken new a = d at hd
  have hrd : d.refilling = true := by rw [hd]; exact hr
  have hsd : d.serving := by rw [hd]; exact hs
  have hlevel : d.gen.level = new := by rw [hd]
  have hfull : genLevelChange new d = d := genLevelChange_full hsd hlevel (by
    rcases hn with e | e <;> simp [Block.short, hlevel, e])
  have hends : levelEnds .fill d.fill new = true := by
    rw [levelEnds_normal (by rw [hd]; exact hm) (by rw [hd]; exact ht), ((refilling_iff d).mp hrd).1]
    rcases hn with e | e <;> rw [e] <;> rfl
  have hend : endReached new d = genFillEnd .level (endTransfer .fill .level d) :=
    (if_pos hends).trans (endAndDeliver_fill hrd .level)
  have hbegin : ∀ r : ChannelRec, beginRunOn new r = r := fun r =>
    if_neg fun h => by rcases hn with e | e <;> exact Level.noConfusion (e.symm.trans h.2.2.1)
  refine ⟨_, rfl, ?_⟩
  rw [levelChange_eq h, hde, hfull, hend, hbegin]
  exact fillEnded ⟨by decide, by decide⟩ hrd hsd

/-- What a serving generator makes of a level below its target, in the part with the level taken. -/
theorem levelChange_served {new : Level} {a : Block} (h : a.gen.level ≠ new)
    (hs : a.gen.state = .heating ∨ a.gen.state = .ready) {e : Block}
    (hg : (if new = .dry then
        if (levelTaken new a).refilling then
          setGen { (levelTaken new a).gen with state := .filling, held := some .serviceFill }
            (enterGen .filling (levelTaken new a))
        else if (levelTaken new a).mayFill then
          enterGen .filling (fillClaimed .serviceFill (levelTaken new a))
        else levelTaken new a
      else if new = .low then
        if (levelTaken new a).mayFill then fillClaimed .refill (levelTaken new a)
        else levelTaken new a
      else levelTaken new a) = e)
    (he : levelEnds .fill e.fill new = false) :
    (levelChange new a).gen = e.gen ∧ (levelChange new a).share = e.share ∧
      (levelChange new a).fill = e.fill := by
  have hstate : (levelTaken new a).gen.state = .heating ∨ (levelTaken new a).gen.state = .ready := by
    rwa [levelTaken_eq]
  have hlevel : (levelTaken new a).gen.level = new := by rw [levelTaken_eq]
  have hl := (genLevelChange_serves hstate hlevel).trans hg
  have hu := levelChange_unended h (by rw [hl]; exact he)
  rwa [hl] at hu

theorem levelEnds_fresh (b : Block) {new : Level} (hn : new = .dry ∨ new = .low) :
    levelEnds .fill (freshFill b) new = false := by
  rw [levelEnds_normal rfl rfl]
  rcases hn with e | e <;> rw [e] <;> exact Bool.and_false _

/-- A refill in flight, and the level goes to DRY: the generator fills with it. -/
theorem levelChange_dry_refilling {a : Block} (h : a.gen.level ≠ .dry)
    (hs : a.gen.state = .heating ∨ a.gen.state = .ready) (ho : a.ownFill = true) :
    (levelChange .dry a).gen.state = .filling ∧
      (levelChange .dry a).share.requests.gen.watts = 0 ∧
      (levelChange .dry a).gen.held = some .serviceFill ∧ (levelChange .dry a).fill = a.fill := by
  obtain ⟨hr, hm, ht⟩ := (ownFill_iff a).mp ho
  have hd := levelTaken_eq .dry a
  have hrd : (levelTaken .dry a).refilling = true := by rw [hd]; exact hr
  obtain ⟨hg, hsh, hf⟩ := levelChange_served h hs
    (e := setGen { (levelTaken .dry a).gen with state := .filling, held := some .serviceFill }
      (enterGen .filling (levelTaken .dry a)))
    (by rw [if_pos rfl, if_pos hrd])
    (by
      have hfill : (enterGen .filling (levelTaken .dry a)).fill = a.fill := by
        rw [enterGen_eq, hd]
      have he : levelEnds .fill a.fill .dry = false := by
        rw [levelEnds_normal hm ht]
        exact Bool.and_false _
      rwa [← hfill] at he)
  have hfill : (levelTaken .dry a).fill = a.fill := by rw [hd]
  rw [hg, hsh, hf, enterGen_eq]
  exact ⟨rfl, rfl, rfl, hfill⟩

/-- No fill in the way, and the level goes to DRY: the generator claims one and fills. -/
theorem levelChange_dry_claims {a : Block} (h : a.gen.level ≠ .dry)
    (hs : a.gen.state = .heating ∨ a.gen.state = .ready) (hm : a.mayFill = true) :
    (levelChange .dry a).gen.state = .filling ∧
      (levelChange .dry a).share.requests.gen.watts = 0 ∧
      (levelChange .dry a).gen.held = some .serviceFill ∧
      (levelChange .dry a).fill = freshFill a := by
  have hd := levelTaken_eq .dry a
  have hmd : (levelTaken .dry a).mayFill = true := by rw [hd]; exact hm
  have hrd : (levelTaken .dry a).refilling = false := by
    rw [Bool.eq_false_iff]
    exact fun e => Bool.noConfusion (hmd.symm.trans (refilling_not_mayFill e))
  have hfresh : freshFill (levelTaken .dry a) = freshFill a := by rw [hd]; rfl
  obtain ⟨hg, hsh, hf⟩ := levelChange_served h hs
    (e := enterGen .filling (fillClaimed .serviceFill (levelTaken .dry a)))
    (by rw [if_pos rfl, if_neg (ne_true_of_eq_false hrd), if_pos hmd])
    (by rw [enterGen_eq]; exact levelEnds_fresh _ (.inl rfl))
  rw [hg, hsh, hf, enterGen_eq]
  exact ⟨rfl, rfl, rfl, hfresh⟩

/-- No fill in the way, and the level goes to LOW: the generator claims a refill. -/
theorem levelChange_low_claims {a : Block} (h : a.gen.level ≠ .low)
    (hs : a.gen.state = .heating ∨ a.gen.state = .ready) (hm : a.mayFill = true) :
    (levelChange .low a).gen = { a.gen with level := .low, held := some .refill } ∧
      (levelChange .low a).share.requests = a.share.requests ∧
      (levelChange .low a).fill = freshFill a := by
  have hd := levelTaken_eq .low a
  have hmd : (levelTaken .low a).mayFill = true := by rw [hd]; exact hm
  obtain ⟨hg, hsh, hf⟩ := levelChange_served h hs (e := fillClaimed .refill (levelTaken .low a))
    (by rw [if_neg (by decide), if_pos rfl, if_pos hmd]) (levelEnds_fresh _ (.inr rfl))
  rw [hg, hsh, hf]
  unfold fillClaimed
  rw [hd]
  exact ⟨rfl, rfl, rfl⟩

/-- A serving generator that claims nothing and whose fill goes on takes the level alone. -/
theorem levelChange_stays {new : Level} {a : Block} (h : a.gen.level ≠ new)
    (hg : genLevelChange new (levelTaken new a) = levelTaken new a)
    (he : levelEnds .fill a.fill new = false) :
    (levelChange new a).gen = { a.gen with level := new } ∧
      (levelChange new a).share.requests = a.share.requests ∧
      (levelChange new a).fill = a.fill := by
  have hd := levelTaken_eq new a
  obtain ⟨h1, h2, h3⟩ := levelChange_unended h (by rw [hg, hd]; exact he)
  rw [h1, h2, h3, hg, hd]
  exact ⟨rfl, rfl, rfl⟩

/-- A fill of its own in flight at LOW leaves the generator nothing to claim. -/
theorem levelChange_low_refilling {a : Block} (h : a.gen.level ≠ .low) (hs : a.serving)
    (ho : a.ownFill = true) :
    (levelChange .low a).gen = { a.gen with level := .low } ∧ (levelChange .low a).fill = a.fill := by
  obtain ⟨hr, hm, ht⟩ := (ownFill_iff a).mp ho
  have hd := levelTaken_eq .low a
  have hmay : (levelTaken .low a).mayFill = false :=
    refilling_not_mayFill (by rw [hd]; exact hr)
  have hgen : genLevelChange .low (levelTaken .low a) = levelTaken .low a := by
    have hsd : (levelTaken .low a).serving := by rw [hd]; exact hs
    rcases hsd with e | e
    · exact genLevelChange_other (by rw [e]; decide) (by rw [e]; decide) (by rw [e]; decide)
    · rw [genLevelChange_serves e (by rw [hd]), if_neg (by decide), if_pos rfl, hmay]
      rfl
  have he : levelEnds .fill a.fill .low = false := by
    rw [levelEnds_normal hm ht]
    exact Bool.and_false _
  obtain ⟨h1, -, h3⟩ := levelChange_stays h hgen he
  exact ⟨h1, h3⟩

theorem levelEnds_resting {r : ChannelRec} (h : r.inFlight = false) (l : Level) :
    levelEnds .fill r l = false := by
  unfold levelEnds
  rw [h]
  rfl

/-- With no fill in flight and none to be claimed, a level changes the level alone. -/
theorem levelChange_refused {new : Level} {a : Block} (h : a.gen.level ≠ new)
    (hs : a.gen.state = .heating ∨ a.gen.state = .ready) (hf : a.fill.inFlight = false)
    (hn : a.mayFill = false ∨ new = .normal ∨ new = .high) :
    (levelChange new a).gen = { a.gen with level := new } ∧
      (levelChange new a).share.requests = a.share.requests ∧
      (levelChange new a).fill = a.fill := by
  have hd := levelTaken_eq new a
  have hr : (levelTaken new a).refilling = false := by
    rw [Block.refilling, hd]
    simp [hf]
  have hmay : (levelTaken new a).mayFill = a.mayFill := by rw [hd]; rfl
  have hgen : genLevelChange new (levelTaken new a) = levelTaken new a := by
    rw [genLevelChange_serves (by rwa [hd]) (by rw [hd]), hr, hmay]
    rcases hn with e | rfl | rfl
    · simp [e]
    · rfl
    · rfl
  exact levelChange_stays h hgen (levelEnds_resting hf new)

/-- Settles O34: each end of the fill is accounted and released, and each change of level claims,
fills or stays, as the fill in flight and the channels let it. -/
theorem generatorKeepsItsWater : Obligations.GeneratorKeepsItsWater := by
  refine ⟨fun s hl hs ho => ⟨fun ha hn => ?_, fun ha hn hm hst => ?_, fun ha => ?_⟩,
    fun e wet s hl hsettle hs hd hr => ?_⟩
  · exact pacing_filledAs ⟨by decide, by decide⟩ hl hs ho ha (if_pos ⟨rfl, hn⟩)
  · refine pacing_filledAs (e := .count) ⟨by decide, by decide⟩ hl hs ho ha ?_
    have hm' : ¬ (s.fill.mode = .sourceSync ∧ s.fill.runOn = some 25) := fun h =>
      TransferMode.noConfusion (hm.symm.trans h.1)
    exact (if_neg fun h => hn h.2).trans ((if_neg hm').trans (if_pos hst))
  · exact pauseTimeout_filledAs hl hs ho ha
  · obtain ⟨r, hx, hw⟩ := electrodeChange_exec hl hsettle hd hr
    have hser := electrodeTaken_service e wet s.toBlock
    have hgen : (electrodeTaken e wet s.toBlock).gen = s.gen := by rw [electrodeTaken_eq]
    have hshare : (electrodeTaken e wet s.toBlock).share = s.share := by rw [electrodeTaken_eq]
    have hfill : (electrodeTaken e wet s.toBlock).fill = s.fill := by rw [electrodeTaken_eq]
    have hdrain : (electrodeTaken e wet s.toBlock).drain = s.drain := by rw [electrodeTaken_eq]
    generalize electrodeTaken e wet s.toBlock = a at hx hw hser hgen hshare hfill hdrain
    generalize derivedLevel a.switches = new at hx hw
    have hsa : a.serving := by unfold Block.serving; rwa [hgen]
    have hown : a.ownFill = s.toBlock.ownFill := by unfold Block.ownFill; rw [hfill]
    have hmay : a.mayFill = s.toBlock.mayFill := by unfold Block.mayFill; rw [hfill, hdrain]
    refine ⟨_, hx, fun hn => ?_, fun hn => ?_⟩
    · have hsame : a.gen.level = new := by
        by_contra hne
        exact hne ((congrArg Generator.level hgen).trans
          (hn.symm.trans (levelChange_changed hne).level))
      rw [levelChange_same hsame]
      exact ⟨hgen, hfill⟩
    have hne : a.gen.level ≠ new := fun e => hn (by
      rw [levelChange_same e]
      exact congrArg Generator.level hgen)
    have hlev : (levelChange new a).gen.level = new := (levelChange_changed hne).level
    have hsw : (levelChange new a).switches = a.switches := by
      rw [(levelChange_changed hne).outside]
    have hfresh : freshFill a = freshFill (levelChange new a) := by
      unfold freshFill
      rw [hsw]
    refine ⟨fun ho hl' => ?_, fun ho hl' => ?_, fun hnf => ?_⟩
    · obtain ⟨b, hb, hend⟩ := levelChange_filled hne hsa (hown.trans ho) (by rwa [← hlev])
      have hfilled : FilledAs .level s.toBlock (setStore r b) :=
        hend.filledAs (hser.trans (levelTaken_service new a)) rfl (hw b hb.symm hend.written)
      subst hb
      exact hfilled
    · obtain rfl : new = .low := hlev.symm.trans hl'
      obtain ⟨h1, h2⟩ := levelChange_low_refilling hne hsa (hown.trans ho)
      exact ⟨h1.trans (by rw [hgen]), h2.trans hfill⟩
    have hst : a.gen.state = .heating ∨ a.gen.state = .ready := by
      rw [hgen]
      exact hs.resolve_left hnf
    refine ⟨fun ho hl' => ?_, fun hm hl' => ?_, fun hm hl' => ?_, fun hf hm => ?_⟩
    · obtain rfl : new = .dry := hlev.symm.trans hl'
      obtain ⟨h1, h2, h3, h4⟩ := levelChange_dry_refilling hne hst (hown.trans ho)
      exact ⟨h1, h2, h3, h4.trans hfill⟩
    · obtain rfl : new = .dry := hlev.symm.trans hl'
      obtain ⟨h1, h2, h3, h4⟩ := levelChange_dry_claims hne hst (hmay.trans hm)
      exact ⟨h1, h2, h3, h4.trans hfresh⟩
    · obtain rfl : new = .low := hlev.symm.trans hl'
      obtain ⟨h1, h2, h3⟩ := levelChange_low_claims hne hst (hmay.trans hm)
      exact ⟨h1.trans (by rw [hgen]), h2.trans (by rw [hshare]), h3.trans hfresh⟩
    · obtain ⟨h1, h2, h3⟩ := levelChange_refused hne hst (by rw [hfill]; exact hf)
        (hm.imp hmay.trans fun h => by rwa [← hlev])
      refine ⟨h1.trans ?_, h2.trans (by rw [hshare]), h3.trans hfill⟩
      rw [hgen]
      exact congrArg (fun l => { s.gen with level := l }) hlev.symm

end Sys2Proof.Machine
end

section
/-! SUPPORT. The generator leaves service, and its drain ends (R45, R49, R51, R59, R80, R182). -/

namespace Sys2Proof.Machine

/-! ### The service decision, as the whole event leaves it -/

/-- What the service decision leaves of a part, at the end of its event (O33, O36). -/
def DecidedAs (free : Bool) (s t : Block) : Prop :=
  let locked : Bool :=
    s.descale.kept.rinseOwed || decide (lockThreshold s.straps.cavity ≤ s.gen.account.scale)
  let known : Bool := decide (s.sensors.generator.validity = .valid)
  let short : Bool := decide (t.gen.level = .dry) || decide (t.gen.level = .low)
  (locked = true ∨ known = false →
    t.gen.state = .idle ∧ t.share.requests.gen.watts = 0) ∧
  (locked = false → known = true → short = false →
    t.gen.state = .heating ∧
    t.share.requests.gen = ⟨(rating s.straps.cavity).gen, t.gen.prio⟩) ∧
  (locked = false → known = true → short = true → free = true →
    t.gen.state = .filling ∧ t.share.requests.gen.watts = 0 ∧
    t.gen.held = some .serviceFill ∧ t.fill = freshFill t) ∧
  (locked = false → known = true → short = true → free = false →
    t.gen.state = .idle ∧ t.share.requests.gen.watts = 0)

/-- What the service decision rests on stands as it did: the lock, the wall channel, the straps. -/
structure SameGround (s a : Block) : Prop where
  kept : a.descale.kept = s.descale.kept
  straps : a.straps = s.straps
  account : a.gen.account = s.gen.account
  wall : a.sensors.generator = s.sensors.generator

theorem SameGround.locked {s a : Block} (h : SameGround s a) : steamLock a =
    (s.descale.kept.rinseOwed || decide (lockThreshold s.straps.cavity ≤ s.gen.account.scale)) := by
  unfold steamLock lockByScale
  rw [h.kept, h.straps, h.account, Bool.or_comm]

/-- The decision made in a part that stands on the ground of another, its outcome kept. -/
theorem ServiceDecided.decidedAs {free : Bool} {s a b t : Block} (h : ServiceDecided a b)
    (hs : SameGround s a) (hm : free = a.mayFill) (hg : t.gen = b.gen)
    (hr : t.share.requests.gen = b.share.requests.gen)
    (hf : free = true → t.fill = b.fill ∧ t.switches = a.switches) : DecidedAs free s t := by
  unfold DecidedAs
  extract_lets locked known short
  have hk : locked = steamLock a := hs.locked.symm
  have hw : known = a.sensors.generator.ok := by
    unfold known Analog.ok
    rw [hs.wall]
  have hl : short = a.short := by
    unfold short Block.short
    rw [hg, h.gen]
  have hprio : t.gen.prio = a.gen.prio := by rw [hg, h.gen]
  have hrating : genRating a = (rating s.straps.cavity).gen := by
    unfold genRating
    rw [hs.straps]
  rw [hk, hw, hl, hr, hprio, ← hrating, hg, hm]
  refine ⟨h.barred, h.heats, fun h1 h2 h3 h4 => ?_, h.waits⟩
  obtain ⟨f1, f2, f3, f4⟩ := h.fills h1 h2 h3 h4
  obtain ⟨g1, g2⟩ := hf (hm.trans h4)
  refine ⟨f1, f2, f3, g1.trans (f4.trans ?_)⟩
  unfold freshFill
  rw [g2]

/-! ### The generator leaves service (R45, R49, R59) -/

/-- What the end of its service makes of a serving generator, and of a fill in flight. -/
structure ServiceStopped (a b : Block) : Prop where
  state : b.gen.state = .cooling
  row : b.share.requests.gen.watts = 0
  filled : a.refilling = true → b.gen.account = a.filledAccount ∧ b.gen.held = none ∧
    b.fill = { a.fill with
      state := .idle, owner := .none, endReason := some .stopped, levelAtEnd := some a.gen.level }

theorem serviceStopped (a : Block) : ServiceStopped a (enterGen .cooling (stopFill a)) := by
  rw [stopFill_eq, enterGen_eq]
  refine ⟨rfl, rfl, fun h => ?_⟩
  rw [if_pos h, fillSettled_eq h]
  exact ⟨rfl, rfl, rfl⟩

theorem steamWantedCleared_serving {b : Block} (h : b.serving) :
    steamWantedCleared b = enterGen .cooling (stopFill b) := by
  unfold steamWantedCleared
  rcases h with e | e | e <;> rw [e]

theorem steamWantedCleared_waiting {b : Block} (h : b.gen.state = .waitWater) :
    steamWantedCleared b = restIdle b := by
  unfold steamWantedCleared
  rw [h]

theorem steamWantedCleared_other {b : Block} (h : ¬ b.serving) (hw : b.gen.state ≠ .waitWater) :
    steamWantedCleared b = b := by
  unfold steamWantedCleared
  unfold Block.serving at h
  cases e : b.gen.state <;> simp_all

/-- The part with the climate OFF, before the generator leaves service. -/
def climateOffed (b : Block) : Block :=
  setClimate
    { (zeroDemand b).climate with
      state := .off, periodTimer := false, openLoop := false
      flap := (zeroDemand b).climate.flap.toOpen
      reasons := { (zeroDemand b).climate.reasons with runHold := false, silent := false }
      steamWanted := false } (zeroDemand b)

theorem enterOff_wanted {b : Block} (hs : b.climate.state ≠ .off)
    (hw : b.climate.steamWanted = true) : enterOff b = steamWantedCleared (climateOffed b) := by
  have hz : (zeroDemand b).climate.steamWanted = true := by
    rw [(HoldMoved.zeroDemand b).climate]
    exact hw
  have hn : ¬ (zeroDemand b).climate.steamWanted = false := fun e =>
    Bool.noConfusion (hz.symm.trans e)
  exact (if_neg hs).trans ((if_neg hn).trans (if_neg Bool.false_ne_true))

theorem climateOffed_moved (b : Block) :
    (climateOffed b).gen = { b.gen with
        demand := (climateOffed b).gen.demand, prio := (climateOffed b).gen.prio } ∧
      (climateOffed b).fill = b.fill ∧ (climateOffed b).settings = b.settings := by
  have h := HoldMoved.zeroDemand b
  have hfill : (zeroDemand b).fill = b.fill := by rw [h.eq]
  have hset : (zeroDemand b).settings = b.settings := by rw [h.eq]
  exact ⟨h.gen, hfill, hset⟩

theorem climateOffRequest_taken {b : Block} (ho : b.climate.overtemp = false)
    (hp : b.descale.kept.phase = .idle) (hr : b.run.state = .idle) :
    climateOffRequest [] b = ⟨enterOff b, .ok, []⟩ := by
  simp [climateOffRequest, descaling, answerOk, ho, hp, hr]

@[simp] theorem heard_overtemp (b : Block) : (heard b).climate.overtemp = b.climate.overtemp := by
  rw [(heard_heard b).climate]

/-- A CLIMATE OFF at a part whose climate works with steam wanted. -/
theorem climateOff_exec {s : State} (hs : Answers s) (ho : s.climate.overtemp = false)
    (hp : s.descale.kept.phase = .idle) (hr : s.run.state = .idle) (hc : s.climate.state ≠ .off)
    (hw : s.climate.steamWanted = true) :
    ∃ t, exec (.climateOff []) s = .next t ∧
      t.gen = (steamWantedCleared (climateOffed (heard s.toBlock))).gen ∧
      t.share.requests = (steamWantedCleared (climateOffed (heard s.toBlock))).share.requests ∧
      t.fill = (steamWantedCleared (climateOffed (heard s.toBlock))).fill := by
  have ha := climateOffRequest_taken (b := heard s.toBlock) (by rwa [heard_overtemp])
    (by rwa [heard_descale]) (by rwa [heard_runState])
  rw [enterOff_wanted (fun e => hc ((heard_heard s.toBlock).off.mp e))
    (by rwa [heard_steamWanted])] at ha
  have hx := request_answers hs 0x11#8 (climateOffRequest [])
  rw [ha] at hx
  generalize steamWantedCleared (climateOffed (heard s.toBlock)) = c at hx
  have hend := finishEvent_sameBeforeEnd s.toBlock (replied 0x11#8 .ok [] c)
  exact ⟨_, hx, (congrArg Block.gen hend).trans rfl,
    (finishEvent_keeps s.toBlock (replied 0x11#8 .ok [] c)).1, (congrArg Block.fill hend).trans rfl⟩

/-- Leaving the service at a CLIMATE OFF (R45, R49). -/
theorem climateOff_acts {s : State} (hs : Answers s) (ho : s.climate.overtemp = false)
    (hp : s.descale.kept.phase = .idle) (hr : s.run.state = .idle)
    (hc : s.climate.state = .active ∨ s.climate.state = .suspended)
    (hw : s.climate.steamWanted = true) :
    ∃ t, exec (.climateOff []) s = .next t ∧
      (s.gen.state = .filling ∨ s.gen.state = .heating ∨ s.gen.state = .ready →
        t.gen.state = .cooling ∧ t.share.requests.gen.watts = 0 ∧
        (s.fill.inFlight = true → s.fill.owner = .generator →
          t.gen.account =
            s.gen.account.addFill s.settings (s.fill.flow * s.settings.prescale) ∧
          t.gen.held = none ∧
          t.fill =
            { s.fill with
              state := .idle, owner := .none, endReason := some .stopped
              levelAtEnd := some s.gen.level })) ∧
      (s.gen.state = .waitWater → t.gen.state = .idle ∧ t.share.requests.gen.watts = 0) ∧
      (s.gen.state = .idle ∨ s.gen.state = .cooling ∨ s.gen.state = .draining ∨
          s.gen.state = .descale ∨ s.gen.state = .fault →
        t.gen.state = s.gen.state ∧ t.fill = s.fill) := by
  have hoff : s.climate.state ≠ .off := by rcases hc with e | e <;> rw [e] <;> decide
  obtain ⟨t, hx, hgen, hreq, hfill⟩ := climateOff_exec hs ho hp hr hoff hw
  obtain ⟨qg, qf, qs⟩ := climateOffed_moved (heard s.toBlock)
  rw [(heard_heard s.toBlock).gen] at qg
  rw [heard_fill] at qf
  rw [heard_settings] at qs
  generalize climateOffed (heard s.toBlock) = q at hgen hreq hfill qg qf qs
  have hstate : q.gen.state = s.gen.state := by rw [qg]
  refine ⟨t, hx, fun h => ?_, fun h => ?_, fun h => ?_⟩
  · have hser : q.serving := by unfold Block.serving; rwa [hstate]
    rw [steamWantedCleared_serving hser] at hgen hreq hfill
    have hstop := serviceStopped q
    rw [hgen, hreq, hfill]
    refine ⟨hstop.state, hstop.row, fun h1 h2 => ?_⟩
    obtain ⟨f1, f2, f3⟩ := hstop.filled ((refilling_iff q).mpr (by rw [qf]; exact ⟨h1, h2⟩))
    refine ⟨f1.trans ?_, f2, f3.trans ?_⟩
    · unfold Block.filledAccount
      rw [qg, qf, qs]
    · rw [qf, qg]
  · rw [steamWantedCleared_waiting (hstate.trans h), restIdle, enterGen_eq] at hgen hreq
    rw [hgen, hreq]
    exact ⟨rfl, rfl⟩
  · have hns : ¬ q.serving := by
      unfold Block.serving
      rw [hstate]
      rcases h with h | h | h | h | h <;> rw [h] <;> decide
    have hnw : q.gen.state ≠ .waitWater := by
      rw [hstate]
      rcases h with h | h | h | h | h <;> rw [h] <;> decide
    rw [steamWantedCleared_other hns hnw] at hgen hfill
    rw [hgen, hfill]
    exact ⟨hstate, qf⟩

/-! ### The end of the generator's drain (R51, R80, R182) -/

/-- A drain ends for the generator by its level, its count or a lost source. -/
def EndReason.ofDrain (e : EndReason) : Prop := e = .level ∨ e = .count ∨ e = .sourceLost

/-- The part with the generator's drain ended and released. -/
def drainReleased (e : EndReason) (b : Block) : Block :=
  setGen { b.gen with held := none, serviceDrain := false }
    (setChannel .drain
      { b.drain with
        state := .idle, owner := .none, endReason := some e, levelAtEnd := some b.gen.level } b)

/-- The part with the ended drain reported: TANK_MISSING for a lost source. -/
def drainReported (e : EndReason) (b : Block) : Block :=
  if e = .sourceLost then raiseAttn .tankMissing .none (drainReleased e b) else drainReleased e b

theorem drainReported_eq (e : EndReason) (b : Block) : drainReported e b =
    { b with
      gen := { b.gen with held := none, serviceDrain := false }
      drain := { b.drain with
        state := .idle, owner := .none, endReason := some e, levelAtEnd := some b.gen.level }
      attn := (drainReported e b).attn } := by
  unfold drainReported
  split <;> rfl

theorem drainReported_missing (b : Block) :
    (drainReported .sourceLost b).attn.has .tankMissing = true :=
  (has_raiseAttn _ _ _ _).mpr (.inl rfl)

theorem endAndDeliver_drain {e : EndReason} {b : Block} (hf : b.drain.inFlight = true)
    (ho : b.drain.owner = .generator) :
    endAndDeliver .drain e b =
      genDrainReport e (setChannel .drain (b.drain.finish e b.gen.level) b) := by
  have hend : endTransfer .drain e b = setChannel .drain (b.drain.finish e b.gen.level) b :=
    if_pos hf
  have howner : ((endTransfer .drain e b).channel .drain).owner = .generator := by
    rw [hend]
    exact ho
  refine (if_pos hf).trans ?_
  unfold deliverEnd
  rw [howner, hend]

theorem enterIdle_wanted {b : Block} (h : b.climate.steamWanted = true) :
    enterIdle b = serviceDecision (restIdle b) := if_pos h

theorem enterIdle_unwanted {b : Block} (h : b.climate.steamWanted = false) :
    enterIdle b = restIdle b := if_neg (ne_true_of_eq_false h)

theorem restIdle_eq (b : Block) : restIdle b =
    { b with
      gen := { b.gen with state := .idle, fillRefused := false }
      share := (restIdle b).share } := by
  rw [restIdle, enterGen_eq]
  rfl

theorem restIdle_rests (b : Block) :
    (restIdle b).gen.state = .idle ∧ (restIdle b).share.requests.gen.watts = 0 := by
  rw [restIdle, enterGen_eq]
  exact ⟨rfl, rfl⟩

/-- What an entry of IDLE leaves, whatever the service decision makes of it. -/
theorem enterIdle_frame (b : Block) : enterIdle b =
    { b with
      gen := { b.gen with
        state := (enterIdle b).gen.state, held := (enterIdle b).gen.held
        fillRefused := (enterIdle b).gen.fillRefused }
      share := (enterIdle b).share, fill := (enterIdle b).fill } := by
  have hr := restIdle_eq b
  cases hw : b.climate.steamWanted
  · rw [enterIdle_unwanted hw]
    exact hr
  · rw [enterIdle_wanted hw]
    have h := serviceDecision_decided (restIdle b)
    have hf := h.frame
    have hg := h.gen
    generalize serviceDecision (restIdle b) = c at hf hg ⊢
    generalize restIdle b = d at hr hf hg
    have hgen : c.gen = { b.gen with
        state := c.gen.state, held := c.gen.held, fillRefused := c.gen.fillRefused } :=
      hg.trans (by rw [hr])
    refine hf.trans ?_
    rw [← hgen, hr]

theorem enterIdle_state (b : Block) : (enterIdle b).gen.state = .idle ∨
    (enterIdle b).gen.state = .heating ∨ (enterIdle b).gen.state = .filling := by
  cases hw : b.climate.steamWanted
  · rw [enterIdle_unwanted hw]
    exact .inl (enterGen_state _ _)
  · rw [enterIdle_wanted hw]
    exact (serviceDecision_decided _).state

theorem genDrainEnd_draining {e : EndReason} (he : e.ofDrain) {b : Block}
    (ho : b.drain.owner = .generator) (hs : b.gen.state = .draining) :
    genDrainEnd e (setChannel .drain (b.drain.finish e b.gen.level) b) =
      if b.gen.descaleTake then enterGen .descale (drainReported e b)
      else enterIdle (drainReported e b) := by
  have hrel : release .drain .generator (setChannel .drain (b.drain.finish e b.gen.level) b) =
      setChannel .drain
        { b.drain with
          state := .idle, owner := .none, endReason := some e, levelAtEnd := some b.gen.level } b :=
    release_ended rfl ho
  have hd := drainReported_eq e b
  have hstate : (drainReported e b).gen.state = .draining := by rw [hd]; exact hs
  have htake : (drainReported e b).gen.descaleTake = b.gen.descaleTake := by rw [hd]
  unfold genDrainEnd
  rw [hrel]
  rcases he with rfl | rfl | rfl
  all_goals
    refine (if_pos hstate).trans ?_
    rw [← htake]
    rfl

/-- The end of a DRAINING generator's drain: it enters DESCALE where the take is marked, which goes on
from there, else IDLE. -/
theorem endAndDeliver_draining {e : EndReason} (he : e.ofDrain) {b : Block}
    (hf : b.drain.inFlight = true) (ho : b.drain.owner = .generator)
    (hs : b.gen.state = .draining) :
    endAndDeliver .drain e b =
      if b.gen.descaleTake then examineDrainOld (enterGen .descale (drainReported e b))
      else enterIdle (drainReported e b) := by
  rw [endAndDeliver_drain hf ho]
  unfold genDrainReport
  extract_lets was c
  have hc : c = if b.gen.descaleTake then enterGen .descale (drainReported e b)
      else enterIdle (drainReported e b) := genDrainEnd_draining he ho hs
  rw [hc]
  cases b.gen.descaleTake
  · refine if_neg fun h => ?_
    rcases enterIdle_state (drainReported e b) with i | i | i <;>
      exact GenState.noConfusion (i.symm.trans h.2)
  · exact if_pos ⟨hs, enterGen_state _ _⟩

/-- A claimed drain is marked as the procedure's; unmarked, the drain is as it was. -/
theorem claimDescaleDrain_unmarked {b : Block}
    (h : (claimDescaleDrain b).descale.transfer = none) : (claimDescaleDrain b).drain = b.drain := by
  unfold claimDescaleDrain at h ⊢
  split at h
  next hc =>
    rw [if_pos hc]
    split at h
    · cases h
    next => rfl
  next hc => rw [if_neg hc]

theorem examineDrainOld_keeps (b : Block) :
    (examineDrainOld b).gen = b.gen ∧
      (b.attn.has .tankMissing = true → (examineDrainOld b).attn.has .tankMissing = true) ∧
      ((examineDrainOld b).descale.transfer = none → (examineDrainOld b).drain = b.drain) := by
  unfold examineDrainOld
  split
  · exact ⟨rfl, fun h => (has_raiseAttn _ _ _ _).mpr (.inr h), fun _ => rfl⟩
  · refine ⟨?_, ?_, claimDescaleDrain_unmarked⟩ <;> rw [claimDescaleDrain_eq]
    exact id

theorem finishEvent_water (a b : Block) :
    (finishEvent a b).gen = b.gen ∧ (finishEvent a b).fill = b.fill ∧
      (finishEvent a b).drain = b.drain ∧ (finishEvent a b).descale = b.descale ∧
      (finishEvent a b).switches = b.switches := by
  have h := finishEvent_sameBeforeEnd a b
  unfold SameBeforeEnd at h
  exact ⟨(congrArg Block.gen h).trans rfl, (congrArg Block.fill h).trans rfl,
    (congrArg Block.drain h).trans rfl, (congrArg Block.descale h).trans rfl,
    (congrArg Block.switches h).trans rfl⟩

/-- What the end of a DRAINING generator's drain leaves of a part, at the end of its event (O36). -/
def DrainEndedAs (e : EndReason) (s t : Block) : Prop :=
  (s.gen.descaleTake = false ∨ t.descale.transfer = none →
    t.drain =
      { s.drain with
        state := .idle, owner := .none, endReason := some e, levelAtEnd := some s.gen.level
        pauseMs := t.drain.pauseMs }) ∧
  t.gen.serviceDrain = false ∧ t.gen.account = s.gen.account ∧
  (e = .sourceLost → t.attn.has .tankMissing = true) ∧
  (s.gen.descaleTake = true → t.gen.state = .descale) ∧
  (s.gen.descaleTake = false → s.climate.steamWanted = true →
    DecidedAs (decide (s.fill.state = .idle)) s t) ∧
  (s.gen.descaleTake = false → s.climate.steamWanted = false →
    t.gen.state = .idle ∧ t.share.requests.gen.watts = 0 ∧
    (s.life.power = .standbyRequested → t.life.power = .standby))

/-- A DRAINING generator's drain ends in a part that stands as another but for its pause. -/
theorem drainEnd_endedAs {e : EndReason} (he : e.ofDrain) {s a : Block} {ms : Nat}
    (ha : a = setChannel .drain { s.drain with pauseMs := ms } s) (hf : s.drain.inFlight = true)
    (ho : s.drain.owner = .generator) (hs : s.gen.state = .draining) :
    DrainEndedAs e s (finishEvent s (endAndDeliver .drain e a)) := by
  have hrep := drainReported_eq e a
  have hmiss : e = .sourceLost → (drainReported e a).attn.has .tankMissing = true := by
    rintro rfl
    exact drainReported_missing a
  rw [endAndDeliver_draining he (by rw [ha]; exact hf) (by rw [ha]; exact ho) (by rw [ha]; exact hs)]
  have htake : a.gen.descaleTake = s.gen.descaleTake := by rw [ha]; rfl
  have hwant : (drainReported e a).climate.steamWanted = s.climate.steamWanted := by rw [hrep, ha]; rfl
  generalize drainReported e a = r at hrep hmiss hwant ⊢
  have hdrain : r.drain = { s.drain with
      state := .idle, owner := .none, endReason := some e, levelAtEnd := some s.gen.level
      pauseMs := ms } := by rw [hrep, ha]; rfl
  have hacc : r.gen.account = s.gen.account := by rw [hrep, ha]; rfl
  have hserve : r.gen.serviceDrain = false := by rw [hrep]
  have hrestore : ∀ {b : Block}, b.drain = r.drain → b.drain = { s.drain with
      state := .idle, owner := .none, endReason := some e, levelAtEnd := some s.gen.level
      pauseMs := b.drain.pauseMs } := fun h => by rw [h, hdrain]
  rw [htake]
  cases ht : s.gen.descaleTake
  · have hframe := enterIdle_frame r
    have hgen : (enterIdle r).gen.serviceDrain = false ∧
        (enterIdle r).gen.account = s.gen.account := by
      rw [hframe]
      exact ⟨hserve, hacc⟩
    obtain ⟨fg, ff, fd, fk, fs⟩ := finishEvent_water s (enterIdle r)
    have hreq := (finishEvent_keeps s (enterIdle r)).1
    have hattn : (finishEvent s (enterIdle r)).attn.has .tankMissing = r.attn.has .tankMissing :=
      (finishEvent_has (by decide) s _).trans (by rw [hframe])
    have hd : (finishEvent s (enterIdle r)).drain = r.drain := fd.trans (by rw [hframe])
    rw [if_neg Bool.false_ne_true]
    refine ⟨fun _ => hrestore hd, ?_, ?_, fun h => hattn.trans (hmiss h), fun h => ?_,
      fun _ hw => ?_, fun _ hw => ?_⟩
    · rw [fg]
      exact hgen.1
    · rw [fg]
      exact hgen.2
    · exact Bool.noConfusion (ht.symm.trans h)
    · have hdec := serviceDecision_decided (restIdle r)
      rw [← enterIdle_wanted (hwant.trans hw)] at hdec
      have hground : SameGround s (restIdle r) := by
        rw [restIdle_eq, hrep, ha]
        exact ⟨rfl, rfl, rfl, rfl⟩
      have hmay : (restIdle r).mayFill = decide (s.fill.state = .idle) := by
        have hf' : (restIdle r).fill = s.fill := by rw [restIdle_eq, hrep, ha]; rfl
        have hd' : (restIdle r).drain = r.drain := by rw [restIdle_eq]
        unfold Block.mayFill
        rw [hf', hd', hdrain]
        exact Bool.and_true _
      exact hdec.decidedAs hground hmay.symm fg (congrArg PerLoad.gen hreq)
        fun _ => ⟨ff, fs.trans (by rw [hframe, restIdle_eq])⟩
    · have hrest : enterIdle r = restIdle r := enterIdle_unwanted (hwant.trans hw)
      obtain ⟨h1, h2⟩ := restIdle_rests r
      have hlife : (enterIdle r).life = s.life := by rw [hframe, hrep, ha]; rfl
      have hallowed : standbyAllowed s = true → standbyAllowed (enterIdle r) = true := by
        have hstate : (enterIdle r).gen.state ≠ .fault := by
          rw [hrest, h1]
          decide
        have hc : (enterIdle r).climate = s.climate := by rw [hframe, hrep, ha]; rfl
        have hrun : (enterIdle r).run = s.run := by rw [hframe, hrep, ha]; rfl
        have hkept : (enterIdle r).descale = s.descale := by rw [hframe, hrep, ha]; rfl
        simp only [standbyAllowed, hc, hrun, hkept, Bool.and_eq_true, decide_eq_true_eq]
        exact fun h => ⟨h.1, hstate⟩
      refine ⟨?_, ?_, fun hp => ?_⟩
      · rw [fg, hrest]
        exact h1
      · rw [hreq, hrest]
        exact h2
      · refine finishEvent_taken (by rw [hlife]; exact hp) hallowed ?_ ?_
        · rw [hs]
          decide
        · rw [hrest]
          exact h1
  · rw [if_pos rfl]
    obtain ⟨hg, hm, hd⟩ := examineDrainOld_keeps (enterGen .descale r)
    rw [enterGen_eq] at hg hm hd
    rw [enterGen_eq]
    generalize examineDrainOld _ = c at hg hm hd ⊢
    obtain ⟨fg, -, fd, fk, -⟩ := finishEvent_water s c
    refine ⟨fun h => ?_, ?_, ?_, fun h => ?_, fun _ => ?_, fun h => ?_, fun h => ?_⟩
    · have hn : c.descale.transfer = none := by
        rw [← fk]
        exact h.resolve_left fun h => Bool.noConfusion (ht.symm.trans h)
      exact hrestore (b := finishEvent s c) (fd.trans (hd hn))
    · rw [fg, hg]
      exact hserve
    · rw [fg, hg]
      exact hacc
    · exact (finishEvent_has (by decide) s c).trans (hm (hmiss h))
    · rw [fg, hg]
    · exact Bool.noConfusion (ht.symm.trans h)
    · exact Bool.noConfusion (ht.symm.trans h)

theorem inFlight_of {r : ChannelRec} (h : r.state = .active ∨ r.state = .paused) :
    r.inFlight = true := by
  rcases h with e | e <;> simp [ChannelRec.inFlight, e]

theorem pacing_endedAs {e : EndReason} (he : e.ofDrain) {s : State} (hl : live s.toBlock = true)
    (hs : s.gen.state = .draining) (ho : s.drain.owner = .generator)
    (ha : s.drain.state = .active) (hp : pacingEnd .drain s.drain = some e) :
    ∃ t, exec (.pacingExpiry .drain) s = .next t ∧ DrainEndedAs e s.toBlock t.toBlock := by
  have hx : event (pacing .drain) s.toBlock =
      finishEvent s.toBlock (endAndDeliver .drain e s.toBlock) := by
    rw [event_live hl, pacing_ends (c := .drain) (b := s.toBlock) ha hp]
  exact ⟨_, onBlock_eq hx,
    drainEnd_endedAs (ms := s.drain.pauseMs) he rfl (inFlight_of (.inl ha)) ho hs⟩

/-- Settles O36: a CLIMATE OFF clears steam-wanted at the generator; each end of its drain is released
and reported, and the generator goes on from there. -/
theorem generatorLeavesService : Obligations.GeneratorLeavesService := by
  refine ⟨fun s hs ho hp hr hc hw => climateOff_acts hs ho hp hr hc hw,
    fun s hl hs ho => ⟨fun ha hm hn => ?_, fun ha hn hst => ?_, fun ha => ?_⟩⟩
  · have hp : pacingEnd .drain s.drain = some .level :=
      (if_neg fun h => Channel.noConfusion h.1).trans (if_pos ⟨hm, hn⟩)
    exact pacing_endedAs (.inl rfl) hl hs ho ha hp
  · have hp : pacingEnd .drain s.drain = some .count :=
      (if_neg fun h => Channel.noConfusion h.1).trans ((if_neg fun h => hn h.2).trans (if_pos hst))
    exact pacing_endedAs (.inr (.inl rfl)) hl hs ho ha hp
  · have hx : event (pauseTimeout .drain) s.toBlock = finishEvent s.toBlock
        (endAndDeliver .drain .sourceLost
          (setChannel .drain { s.drain with pauseMs := 120000 } s.toBlock)) := by
      rw [event_live hl, pauseTimeout_ends (c := .drain) (b := s.toBlock) ha]
      rfl
    exact ⟨_, onBlock_eq hx,
      drainEnd_endedAs (.inr (.inr rfl)) rfl (inFlight_of (.inr ha)) ho hs⟩

end Sys2Proof.Machine
end

section
/-! SUPPORT. The generator enters service (R45, R46, R50, R52, R55, R58). -/

namespace Sys2Proof.Machine

/-! ### The retries outside DESCALE (R52, R88) -/

theorem claimPhaseTransfer_outside {b : Block} (h : b.gen.state ≠ .descale) :
    claimPhaseTransfer b = b := by
  have hf : descaleFree b = false := by simp [descaleFree, h]
  have hd : claimDescaleDrain b = b := by
    unfold claimDescaleDrain
    rw [hf]
    rfl
  have hc : claimDescaleFill b = b := by
    unfold claimDescaleFill
    rw [hf]
    rfl
  unfold claimPhaseTransfer
  split
  · exact hd
  · exact hd
  · exact hd
  · exact hc
  · exact hc
  all_goals rfl

theorem retryDescale_outside {b : Block} (h : b.gen.state ≠ .descale) :
    retryDescale b = setDescale (retryDescale b).descale b := by
  unfold retryDescale
  split
  · rw [claimPhaseTransfer_outside (b := setDescale { b.descale with wait := none } b) h]
    rfl
  · rfl

theorem retryWater_waiting {b : Block} (h : b.gen.state = .waitWater) :
    retryWater b = serviceDecision b := by
  unfold retryWater
  rw [h]

theorem ServiceDecided.not_descale {a b : Block} (h : ServiceDecided a b) :
    b.gen.state ≠ .descale := by
  rcases h.state with e | e | e <;> rw [e] <;> decide

/-! ### A tank put back, and the close of TANK_EMPTY (R52, R152) -/

theorem tankReturned_mayFill (b : Block) : (tankReturned b).mayFill = b.mayFill := by
  have hf : (tankReturned b).fill = b.fill.resume := rfl
  have hd : (tankReturned b).drain = b.drain.resume := rfl
  have hidle : ∀ r : ChannelRec, decide (r.resume.state = .idle) = decide (r.state = .idle) :=
    fun r => by
      unfold ChannelRec.resume
      split
      next h => simp [h]
      next => rfl
  have hflight : ∀ r : ChannelRec, r.resume.inFlight = r.inFlight := fun r => by
    unfold ChannelRec.resume
    split
    next h => simp [ChannelRec.inFlight, h]
    next => rfl
  unfold Block.mayFill
  rw [hf, hd, hidle, hflight]

/-- A part that differs in its procedure only. -/
theorem setDescale_only {d : Descale} {b c : Block} (h : c = setDescale d b) :
    c.gen = b.gen ∧ c.fill = b.fill ∧ c.switches = b.switches ∧ c.share = b.share :=
  ⟨(congrArg Block.gen h).trans rfl, (congrArg Block.fill h).trans rfl,
    (congrArg Block.switches h).trans rfl, (congrArg Block.share h).trans rfl⟩

theorem ServiceDecided.switches_eq {a b : Block} (h : ServiceDecided a b) :
    b.switches = a.switches := (congrArg Block.switches h.frame).trans rfl

/-- A retry of the procedure outside DESCALE leaves what the service decision made. -/
theorem ServiceDecided.retried {free : Bool} {s a b c t : Block} (h : ServiceDecided a b)
    (hs : SameGround s a) (hm : free = a.mayFill) (hc : c = setDescale c.descale b)
    (ht : SameBeforeEnd c t) (hr : t.share.requests = c.share.requests) : DecidedAs free s t := by
  unfold SameBeforeEnd at ht
  obtain ⟨hgen, hfill, hsame, hshare⟩ := setDescale_only hc
  have hswitches : c.switches = a.switches := hsame.trans h.switches_eq
  have hrequests : c.share.requests = b.share.requests := congrArg Share.requests hshare
  have hg : t.gen = b.gen := ((congrArg Block.gen ht).trans rfl).trans hgen
  have hf : t.fill = b.fill := ((congrArg Block.fill ht).trans rfl).trans hfill
  have hsw : t.switches = a.switches := ((congrArg Block.switches ht).trans rfl).trans hswitches
  have hreq : t.share.requests = b.share.requests := hr.trans hrequests
  exact h.decidedAs hs hm hg (congrArg PerLoad.gen hreq) fun _ => ⟨hf, hsw⟩

theorem tankInsertion_decides {s : State} (hl : live s.toBlock = true)
    (hs : s.life.settling = none) (hg : s.gen.state = .waitWater)
    (hd : s.switches.tank.deb = false) (hr : s.switches.tank.raw = true) :
    ∃ t, exec .tankInsertion s = .next t ∧ DecidedAs s.toBlock.mayFill s.toBlock t.toBlock := by
  have hx := event_debounced (i := .tank) (settle := id) (change := tankInserted) hl hs
    (by rw [switchOf, hd]; decide) hr
  refine ⟨_, hx, ?_⟩
  generalize hb : setSwitches (setSwitch .tank ⟨true, true, none, false⟩ s.switches) s.toBlock = b
  have hwake := wake_eq .tank b
  have hmay : s.toBlock.mayFill = (tankReturned b).mayFill := by
    rw [tankReturned_mayFill, ← hb]
    rfl
  have hret : tankReturned b = { wake .tank b with
      fill := (tankReturned b).fill, drain := (tankReturned b).drain
      attn := (tankReturned b).attn } := rfl
  have hstate : (tankReturned b).gen.state = .waitWater := by
    rw [hret, hwake, ← hb]
    exact hg
  have hground : SameGround s.toBlock (tankReturned b) := by
    rw [hret, hwake, ← hb]
    exact ⟨rfl, rfl, rfl, rfl⟩
  have hdec := serviceDecision_decided (tankReturned b)
  have hdescale :
      (moveTankCycle .insertion (serviceDecision (tankReturned b))).gen.state ≠ .descale := by
    rw [moveTankCycle_eq]
    exact hdec.not_descale
  have hc : tankInserted b = setDescale (tankInserted b).descale
      (serviceDecision (tankReturned b)) := by
    rw [tankInserted_eq, retryWater_waiting hstate, retryDescale_outside hdescale, moveTankCycle_eq]
    rfl
  exact hdec.retried hground hmay hc (finishEvent_sameBeforeEnd s.toBlock (tankInserted b))
    (finishEvent_keeps s.toBlock (tankInserted b)).1

/-- The ground stands in the part as a request finds it. -/
theorem heard_ground (b : Block) : SameGround b (heard b) :=
  ⟨by rw [heard_descale], heard_straps b, heard_account b, by rw [heard_sensors]⟩

theorem mayFill_congr {a b : Block} (hf : a.fill = b.fill) (hd : a.drain = b.drain) :
    a.mayFill = b.mayFill := by
  unfold Block.mayFill
  rw [hf, hd]

theorem heard_mayFill (b : Block) : (heard b).mayFill = b.mayFill := by
  have h := heard_heard b
  have hf : (heard b).fill = b.fill := heard_fill b
  have hd : (heard b).drain = b.drain := by rw [h.eq]
  exact mayFill_congr hf hd

/-- The reply, and the end of the event, leave what the service decision made. -/
theorem ServiceDecided.replied {free : Bool} {s a b c : Block} {k : Byte} {st : Status}
    {p : Payload} (h : ServiceDecided a b) (hs : SameGround s a) (hm : free = a.mayFill)
    (hc : c = setDescale c.descale b) :
    DecidedAs free s (finishEvent s (Machine.replied k st p c)) := by
  have hend := finishEvent_sameBeforeEnd s (Machine.replied k st p c)
  have hreq := (finishEvent_keeps s (Machine.replied k st p c)).1
  obtain ⟨hg, hf, -, -, hsw⟩ := finishEvent_water s (Machine.replied k st p c)
  obtain ⟨hgen, hfill, hsame, hshare⟩ := setDescale_only hc
  have hswitches : c.switches = a.switches := hsame.trans h.switches_eq
  have hrequests : c.share.requests = b.share.requests := congrArg Share.requests hshare
  exact h.decidedAs hs hm (hg.trans hgen) (congrArg PerLoad.gen (hreq.trans hrequests))
    fun _ => ⟨hf.trans hfill, hsw.trans hswitches⟩

/-- The close of TANK_EMPTY reports it to the generator, and to the procedure. -/
theorem closeEntry_tankEmpty (b : Block) : closeEntry .tankEmpty b =
    ⟨retryDescaleEmpty (retryWater (clearAttn .tankEmpty b)), .ok, [6#8, 0#8]⟩ := rfl

theorem closable_tankEmpty {b : Block}
    (h : (b.attn.find .tankEmpty).any (fun e => decide (e.state ≠ .acknowledged)) = true) :
    closable b .tankEmpty = true := by
  unfold closable
  cases e : b.attn.find .tankEmpty with
  | none => rw [e] at h; cases h
  | some x =>
    rw [e] at h
    obtain ⟨k, st, t, d⟩ := x
    cases st <;> simp_all [AttnKind.cls]

theorem attentionClose_tankEmpty {x : Byte} {b : Block}
    (h : (b.attn.find .tankEmpty).any (fun e => decide (e.state ≠ .acknowledged)) = true)
    (hx : x = 6#8 ∨ (x = 0#8 ∧ b.attn.chain.getLast? = some .tankEmpty)) :
    attentionCloseRequest [x] b = closeEntry .tankEmpty b := by
  rcases hx with rfl | ⟨rfl, ht⟩
  · have hc := closable_tankEmpty h
    have hk : kindOf (byteAt [6#8] 0) = some .tankEmpty := by decide
    unfold attentionCloseRequest
    rw [if_neg (by decide), if_neg (by decide), if_neg (by decide), hk]
    exact if_pos hc
  · have htop : b.attn.top = some .tankEmpty := ht
    unfold attentionCloseRequest
    rw [if_neg (by decide), if_neg (by decide), if_pos (by decide), htop]

theorem attentionClose_decides {x : Byte} {s : State} (hs : Answers s)
    (hg : s.gen.state = .waitWater)
    (h : (s.attn.find .tankEmpty).any (fun e => decide (e.state ≠ .acknowledged)) = true)
    (hx : x = 6#8 ∨ (x = 0#8 ∧ s.attn.chain.getLast? = some .tankEmpty)) :
    ∃ t, exec (.attentionClose [x]) s = .next t ∧
      DecidedAs s.toBlock.mayFill s.toBlock t.toBlock := by
  have hattn : (heard s.toBlock).attn = s.attn := by rw [(heard_heard s.toBlock).eq]
  have ha := (attentionClose_tankEmpty (x := x) (b := heard s.toBlock) (by rwa [hattn])
    (by rwa [hattn])).trans (closeEntry_tankEmpty _)
  have he := request_answers hs 0x52#8 (attentionCloseRequest [x])
  rw [ha] at he
  refine ⟨_, he, ?_⟩
  have hw : (clearAttn .tankEmpty (heard s.toBlock)).gen.state = .waitWater :=
    (heard_genState s.toBlock).trans hg
  have hdec := serviceDecision_decided (clearAttn .tankEmpty (heard s.toBlock))
  have hground := heard_ground s.toBlock
  refine hdec.replied ⟨hground.kept, hground.straps, hground.account, hground.wall⟩
    (heard_mayFill s.toBlock).symm ?_
  rw [retryWater_waiting hw]
  unfold retryDescaleEmpty
  split
  · exact retryDescale_outside hdec.not_descale
  · rfl

/-! ### A cleared dry-fire (R55) -/

theorem SameGround.trans {a b c : Block} (h : SameGround a b) (g : SameGround b c) :
    SameGround a c :=
  ⟨g.kept.trans h.kept, g.straps.trans h.straps, g.account.trans h.account, g.wall.trans h.wall⟩

theorem unlatched_rest_ground (b : Block) : SameGround b (restIdle (unlatched b)) := by
  rw [restIdle_eq]
  exact ⟨rfl, rfl, rfl, rfl⟩

theorem unlatched_rest_mayFill (b : Block) : (restIdle (unlatched b)).mayFill = b.mayFill := by
  rw [restIdle_eq]
  rfl

theorem generatorClear_decides {s : State} (hs : Answers s) (hg : s.gen.state = .fault)
    (hw : wallCooled s.toBlock = true) (hp : s.descale.kept.phase = .idle)
    (hsw : s.climate.steamWanted = true) :
    ∃ t, exec (.generatorClear []) s = .next t ∧
      DecidedAs s.toBlock.mayFill s.toBlock t.toBlock := by
  have ha := generatorClearRequest_taken (b := heard s.toBlock) (by rwa [heard_genState])
    (by rwa [wallCooled_heard])
  have hx := request_answers hs 0x21#8 (generatorClearRequest [])
  rw [ha] at hx
  refine ⟨_, hx, ?_⟩
  have hd : ¬ descaling (unlatched (heard s.toBlock)) = true := fun e =>
    have hphase := congrArg (fun d : Descale => d.kept.phase) (heard_descale s.toBlock)
    of_decide_eq_true e (hphase.trans hp)
  have hwant : (unlatched (heard s.toBlock)).climate.steamWanted = true :=
    (heard_steamWanted s.toBlock).trans hsw
  have hdec := serviceDecision_decided (restIdle (unlatched (heard s.toBlock)))
  have hground := heard_ground s.toBlock
  have hmay := heard_mayFill s.toBlock
  rw [clearDryFire_unlatched, if_neg hd, enterIdle_wanted hwant]
  exact hdec.replied (hground.trans (unlatched_rest_ground _))
    (hmay.symm.trans (unlatched_rest_mayFill _).symm) rfl

end Sys2Proof.Machine
end

section
/-! SUPPORT. A refused service fill claimed again, and a steam mode set (R45, R48, R50). -/

namespace Sys2Proof.Machine

/-! ### A fill of another owner that reaches its level (R66, R85, R93) -/

/-- The procedure's fill that ends outside DESCALE leaves the generator and the power table. -/
theorem descaleFillEnd_outside {b : Block} (h : b.gen.state ≠ .descale) :
    (descaleFillEnd .level b).gen = b.gen ∧ (descaleFillEnd .level b).share = b.share := by
  have hr : (releaseDescale .fill b).gen = b.gen ∧ (releaseDescale .fill b).share = b.share := by
    unfold releaseDescale
    rcases release_cases .fill .descale b with e | ⟨-, e⟩ <;> rw [e] <;> exact ⟨rfl, rfl⟩
  have hd : ∀ c : Block, c.gen.state ≠ .descale →
      (descaleFillDone c).gen = c.gen ∧ (descaleFillDone c).share = c.share := fun c hc => by
    unfold descaleFillDone
    split
    · unfold enterSoak giveHeater
      rw [if_neg (by exact hc)]
      exact ⟨rfl, rfl⟩
    · exact ⟨rfl, rfl⟩
    · exact ⟨rfl, rfl⟩
  obtain ⟨h1, h2⟩ := hd (releaseDescale .fill b) (by rwa [hr.1])
  exact ⟨h1.trans hr.1, h2.trans hr.2⟩

theorem endReached_foreign {new : Level} {b : Block} (hd : b.gen.state ≠ .descale)
    (ho : b.fill.inFlight = true → b.fill.owner ≠ .generator) :
    (endReached new b).gen = b.gen ∧ (endReached new b).share = b.share := by
  unfold endReached endAndDeliver
  split
  · split
    next hf =>
      have hf' : b.fill.inFlight = true := hf
      have he : endTransfer .fill .level b =
          setChannel .fill (b.fill.finish .level b.gen.level) b := if_pos hf'
      rw [he]
      unfold deliverEnd
      split
      next e _ => exact absurd e (ho hf')
      next _ e => cases e
      next => exact descaleFillEnd_outside hd
      next _ e => cases e
      next => exact ⟨rfl, rfl⟩
    · exact ⟨rfl, rfl⟩
  · exact ⟨rfl, rfl⟩

/-! ### A refused service fill claimed again at a change of level (R45, log 31) -/

/-- The decision claims a fill at a short level with the channels free, or leaves the fill. -/
theorem serviceDecision_fill (a : Block) : (serviceDecision a).fill = a.fill ∨
    a.short = true ∧ a.mayFill = true ∧ (serviceDecision a).fill = freshFill a := by
  have h := serviceDecision_decided a
  by_cases hb : steamLock a = true ∨ a.sensors.generator.ok = false
  · refine .inl ?_
    rw [serviceDecision_barred hb, restIdle_eq]
  simp only [not_or, Bool.not_eq_true, Bool.not_eq_false] at hb
  cases hm : a.mayFill
  · exact .inl (h.busy (.inl hm))
  cases hs : a.short
  · exact .inl (h.busy (.inr hs))
  · exact .inr ⟨rfl, rfl, (h.fills hb.1 hb.2 hs hm).2.2.2⟩

theorem fill_rests {b : Block} (h : b.mayFill = true) : b.fill.inFlight = false := by
  unfold Block.mayFill at h
  have hi : b.fill.state = .idle := of_decide_eq_true (Bool.and_eq_true_iff.mp h).1
  rw [ChannelRec.inFlight, hi]
  rfl

/-- A change of level at which a refused service fill is claimed again. -/
theorem levelChange_decides {new : Level} {s a : Block} (hl : a.gen.level ≠ new)
    (hi : a.gen.state = .idle) (hr : a.gen.fillRefused = true) (hw : a.climate.steamWanted = true)
    (ho : a.fill.inFlight = true → a.fill.owner ≠ .generator) (hs : SameGround s a) :
    (levelChange new a).gen.level = new ∧ DecidedAs a.mayFill s (levelChange new a) := by
  have hd := levelTaken_eq new a
  have hgen : (levelTaken new a).gen = { a.gen with level := new } :=
    (congrArg Block.gen hd).trans rfl
  have hfill : (levelTaken new a).fill = a.fill := (congrArg Block.fill hd).trans rfl
  have hserve : genLevelChange new (levelTaken new a) = serviceDecision (levelTaken new a) := by
    rw [genLevelChange_idle (by rw [hgen]; exact hi), if_pos (by rw [hd]; simp [hr, hw])]
  have hground : SameGround s (levelTaken new a) := by
    rw [hd]
    exact ⟨hs.kept, hs.straps, hs.account, hs.wall⟩
  have hmay : a.mayFill = (levelTaken new a).mayFill := by
    rw [hd]
    rfl
  have hdec := serviceDecision_decided (levelTaken new a)
  have hpick := serviceDecision_fill (levelTaken new a)
  rw [levelChange_eq hl, hserve]
  have hlevel : (levelTaken new a).short = true → new = .dry ∨ new = .low := fun h => by
    have := (short_iff _).mp h
    rwa [hgen] at this
  generalize levelTaken new a = q at hgen hfill hground hmay hdec hpick hlevel
  generalize serviceDecision q = g at hdec hpick
  have hg : g.gen.level = new := by rw [hdec.gen, hgen]
  have hforeign : g.fill.inFlight = true → levelEnds .fill g.fill new = true →
      g.fill.owner ≠ .generator := fun h he => by
    rcases hpick with e | ⟨e, -, e'⟩
    · rw [e, hfill] at h ⊢
      exact ho h
    · rw [e', levelEnds_fresh q (hlevel e)] at he
      cases he
  have hsame : (endReached new g).gen = g.gen ∧ (endReached new g).share = g.share := by
    by_cases he : levelEnds .fill g.fill new = true
    · exact endReached_foreign (ServiceDecided.not_descale hdec) fun h => hforeign h he
    · rw [show endReached new g = g from if_neg he]
      exact ⟨rfl, rfl⟩
  have hkeep : a.mayFill = true → endReached new g = g := fun hm => by
    refine if_neg (ne_true_of_eq_false ?_)
    rcases hpick with e | ⟨e, -, e'⟩
    · rw [e]
      exact levelEnds_resting (fill_rests (hmay.symm.trans hm)) new
    · rw [e']
      exact levelEnds_fresh q (hlevel e)
  refine ⟨(congrArg Generator.level hsame.1).trans hg, ?_⟩
  refine hdec.decidedAs hground hmay hsame.1 (congrArg (fun x : Share => x.requests.gen) hsame.2)
    fun hm => ?_
  have h := hkeep hm
  have hf : (endReached new g).fill = g.fill := congrArg Block.fill h
  have hsw : (endReached new g).switches = g.switches := congrArg Block.switches h
  exact ⟨hf, hsw.trans hdec.switches_eq⟩

theorem electrodeChange_decides {e : Electrode} {wet : Bool} {s : State}
    (hl : live s.toBlock = true) (hs : s.life.settling = none) (hi : s.gen.state = .idle)
    (hr : s.gen.fillRefused = true) (hw : s.climate.steamWanted = true)
    (ho : s.fill.inFlight = true → s.fill.owner ≠ .generator)
    (hd : (switchOf s.switches (.electrode e)).deb ≠ wet)
    (hraw : (switchOf s.switches (.electrode e)).raw = wet) :
    ∃ t, exec (.electrodeChange e wet) s = .next t ∧
      (t.gen.level ≠ s.gen.level → DecidedAs s.toBlock.mayFill s.toBlock t.toBlock) ∧
      (t.gen.level = s.gen.level → t.gen = s.gen) := by
  obtain ⟨r, hx, -⟩ := electrodeChange_exec hl hs hd hraw
  refine ⟨_, hx, ?_⟩
  have he := electrodeTaken_eq e wet s.toBlock
  have hgen : (electrodeTaken e wet s.toBlock).gen = s.gen := (congrArg Block.gen he).trans rfl
  have hmay : (electrodeTaken e wet s.toBlock).mayFill = s.toBlock.mayFill := by rw [he]; rfl
  by_cases hn : (electrodeTaken e wet s.toBlock).gen.level =
      derivedLevel (electrodeTaken e wet s.toBlock).switches
  · rw [levelChange_same hn]
    exact ⟨fun h => absurd (congrArg Generator.level hgen) h, fun _ => hgen⟩
  · obtain ⟨h1, h2⟩ := levelChange_decides (s := s.toBlock) hn (by rwa [hgen]) (by rwa [hgen])
      (by rwa [he]) (by rwa [he]) (by rw [he]; exact ⟨rfl, rfl, rfl, rfl⟩)
    rw [hmay] at h2
    exact ⟨fun _ => h2, fun h => absurd (((congrArg Generator.level hgen).trans h.symm).trans h1) hn⟩

/-! ### A request heard while the climate is OFF (R8, R112) -/

/-- A part whose climate is OFF, with the generator and the table of another. -/
structure OffAs (a b : Block) : Prop where
  off : b.climate.state = .off
  gen : b.gen = a.gen
  requests : b.share.requests = a.share.requests

theorem OffAs.putReasons {a b : Block} (h : OffAs a b) (r : Reasons) :
    OffAs a (putReasons r b) := by
  unfold Machine.putReasons
  extract_lets _ c
  have hc : c.climate.state = .off := h.off
  rw [hc]
  exact ⟨h.off, h.gen, h.requests⟩

theorem OffAs.putHold {a b : Block} (h : OffAs a b) (x : HoldSet) : OffAs a (putHold x b) := by
  have hr : OffAs a (setRun { b.run with hold := x } b) := ⟨h.off, h.gen, h.requests⟩
  unfold Machine.putHold
  extract_lets was c
  exact Closed.ite (Closed.ite hr (hr.putReasons _)) (Closed.ite (hr.putReasons _) hr)

theorem heard_off {b : Block} (h : b.climate.state = .off) : OffAs b (heard b) := by
  have hw : OffAs b (wake .link b) := by
    have hr := wake_requests .link b
    have he := wake_eq .link b
    exact ⟨(congrArg (fun c : Block => c.climate.state) he).trans h,
      (congrArg Block.gen he).trans rfl, hr⟩
  have hs : OffAs b (endSilent (wake .link b)) := by
    unfold endSilent
    extract_lets c
    have hc : OffAs b c := Closed.ite (hw.putHold _) hw
    exact Closed.ite (hc.putReasons _) hc
  exact ⟨hs.off, hs.gen, hs.requests⟩

/-! ### A steam mode set (R10, R45, R50) -/

theorem applySetting_off {x : ClimateSetting} {b : Block} (h : b.climate.state = .off) :
    applySetting x b = leaveOff (setClimate (b.climate.store x) b) := by
  unfold applySetting
  rw [h]

theorem commandModeFlap_climate (d : Climate) (b : Block) :
    ∃ f : Flap, commandModeFlap (setClimate d b) = setClimate { d with flap := f } b := by
  unfold commandModeFlap
  split <;> exact ⟨_, rfl⟩

theorem leaveOff_steam {b : Block} (hw : b.climate.steamWanted = false)
    (hm : b.climate.mode.isSteam = true) :
    ∃ c : Climate, c.steamWanted = true ∧ leaveOff b = steamWantedSet (setClimate c b) := by
  have hput : ∀ d : Climate, d.steamWanted = false → putSteamWanted true (setClimate d b) =
      steamWantedSet (setClimate { d with steamWanted := true } b) := fun d hd =>
    if_neg (by rw [show (setClimate d b).climate.steamWanted = false from hd]; decide)
  unfold leaveOff
  extract_lets c st b₁ b₂
  have h₂ : ∃ d : Climate, d.steamWanted = false ∧ b₂ = setClimate d b := by
    unfold b₂
    split
    · obtain ⟨f, hf⟩ := commandModeFlap_climate b₁.climate b
      exact ⟨{ b₁.climate with flap := f }, hw, hf⟩
    · exact ⟨b₁.climate, hw, rfl⟩
  obtain ⟨d, hd, hb⟩ := h₂
  rw [hb, show c.mode.isSteam = true from hm]
  exact ⟨_, rfl, hput d hd⟩

/-- A steam mode taken by an OFF climate: steam comes to be wanted. -/
theorem takeClimateSet_steam {x : ClimateSetting} {b : Block} (ho : b.climate.state = .off)
    (hw : b.climate.steamWanted = false) (hx : x.mode.isSteam = true) :
    ∃ c : Climate, c.steamWanted = true ∧
      takeClimateSet x b = steamWantedSet (setClimate c b) := by
  have happly : takeClimateSet x b = leaveOff (setClimate
      (Climate.store x { b.climate with source := .link, lampMark := false })
      (setClimate { b.climate with source := .link, lampMark := false } b)) :=
    applySetting_off ho
  obtain ⟨c, hc, hl⟩ := leaveOff_steam (b := setClimate
    (Climate.store x { b.climate with source := .link, lampMark := false })
    (setClimate { b.climate with source := .link, lampMark := false } b)) hw hx
  exact ⟨c, hc, happly.trans hl⟩

/-- What bars a return from COOLING (R50). -/
def Block.barred (b : Block) : Bool :=
  steamLock b || b.gen.serviceDrain || !b.sensors.generator.ok

theorem returnFromCooling_barred {b : Block} (h : b.barred = true) : returnFromCooling b = b :=
  if_pos h

theorem returnFromCooling_dry {b : Block} (h : b.barred = false) (hl : b.gen.level = .dry) :
    returnFromCooling b =
      if b.mayFill then enterGen .filling (fillClaimed .serviceFill b) else b := by
  unfold Block.barred at h
  unfold returnFromCooling
  rw [if_neg (ne_true_of_eq_false h), hl]
  dsimp only
  rw [startFilling_eq ((short_iff b).mpr (.inl hl))]
  cases b.mayFill <;> rfl

theorem returnFromCooling_wet {b : Block} (h : b.barred = false) (hl : b.gen.level ≠ .dry) :
    returnFromCooling b =
      if b.gen.level = .low ∧ b.mayFill = true then fillClaimed .refill (enterGen .heating b)
      else enterGen .heating b := by
  have hgo : returnFromCooling b =
      if b.gen.level = .low then claimRefill (enterGen .heating b) else enterGen .heating b := by
    unfold Block.barred at h
    unfold returnFromCooling
    rw [if_neg (ne_true_of_eq_false h)]
    cases e : b.gen.level
    case dry => exact absurd e hl
    all_goals rfl
  rw [hgo]
  by_cases hlow : b.gen.level = .low
  · have hs : (enterGen .heating b).short = true := by
      rw [short_iff, enterGen_eq]
      exact .inr hlow
    have hm : (enterGen .heating b).mayFill = b.mayFill := by
      rw [enterGen_eq]
      rfl
    rw [if_pos hlow, claimRefill_eq hs, hm]
    simp only [hlow, true_and]
  · rw [if_neg hlow, if_neg fun e => hlow e.1]

/-- A steam mode leaves all but the generator, its row and its fill. -/
theorem steamWantedSet_frame (b : Block) : steamWantedSet b =
    { b with
      gen := (steamWantedSet b).gen, share := (steamWantedSet b).share
      fill := (steamWantedSet b).fill } := by
  unfold steamWantedSet
  split
  · exact (serviceDecision_decided b).frame
  · cases hb : b.barred
    · by_cases hl : b.gen.level = .dry
      · rw [returnFromCooling_dry hb hl, enterGen_eq]
        split <;> rfl
      · rw [returnFromCooling_wet hb hl, enterGen_eq]
        split <;> rfl
    · rw [returnFromCooling_barred hb]
  · rfl

/-- What a CLIMATE SET of a steam mode makes of the generator, at the end of its event (O33). -/
def SteamSet (free : Bool) (s t : Block) : Prop :=
  let locked : Bool :=
    s.descale.kept.rinseOwed || decide (lockThreshold s.straps.cavity ≤ s.gen.account.scale)
  let barred : Bool :=
    locked || s.gen.serviceDrain || decide (s.sensors.generator.validity ≠ .valid)
  (s.gen.state = .idle → DecidedAs free s t) ∧
  (s.gen.state = .cooling → barred = true →
    t.gen = s.gen ∧ t.share.requests.gen = s.share.requests.gen) ∧
  (s.gen.state = .cooling → barred = false → s.gen.level ≠ .dry →
    t.gen.state = .heating ∧
    t.share.requests.gen = ⟨(rating s.straps.cavity).gen, t.gen.prio⟩ ∧
    (s.gen.level = .low ∧ free = true →
      t.fill = freshFill t ∧ t.gen.held = some .refill) ∧
    (s.gen.level ≠ .low ∨ free = false → t.fill = s.fill)) ∧
  (s.gen.state = .cooling → barred = false → s.gen.level = .dry →
    (free = true → t.gen.state = .filling ∧ t.share.requests.gen.watts = 0 ∧
      t.fill = freshFill t) ∧
    (free = false → t.gen = s.gen ∧ t.fill = s.fill)) ∧
  (s.gen.state ≠ .idle → s.gen.state ≠ .cooling → t.gen = s.gen)

/-- The generator's ground, its row and its channels stand as they did. -/
structure ServiceStands (s q : Block) : Prop where
  ground : SameGround s q
  gen : q.gen = s.gen
  row : q.share.requests.gen = s.share.requests.gen
  fill : q.fill = s.fill
  mayFill : q.mayFill = s.mayFill

theorem ServiceStands.barred {s q : Block} (h : ServiceStands s q) : q.barred =
    (s.descale.kept.rinseOwed || decide (lockThreshold s.straps.cavity ≤ s.gen.account.scale) ||
      s.gen.serviceDrain || decide (s.sensors.generator.validity ≠ .valid)) := by
  unfold Block.barred Analog.ok
  rw [h.ground.locked, h.ground.wall, h.gen, decide_not]

/-- The generator at a steam mode set, whatever the rest of the event leaves. -/
theorem ServiceStands.steamSet {s q t : Block} (h : ServiceStands s q)
    (hg : t.gen = (steamWantedSet q).gen)
    (hr : t.share.requests.gen = (steamWantedSet q).share.requests.gen)
    (hf : t.fill = (steamWantedSet q).fill) (hsw : t.switches = q.switches) :
    SteamSet s.mayFill s t := by
  have hrating : genRating q = (rating s.straps.cavity).gen := by
    unfold genRating
    rw [h.ground.straps]
  have hfresh : freshFill q = freshFill t := by
    unfold freshFill
    rw [hsw]
  have hcool : s.gen.state = .cooling → steamWantedSet q = returnFromCooling q := fun e => by
    unfold steamWantedSet
    rw [h.gen, e]
  unfold SteamSet
  extract_lets locked barred
  have hbar : q.barred = barred := h.barred
  refine ⟨fun e => ?_, fun e hb => ?_, fun e hb hl => ?_, fun e hb hl => ?_, fun e1 e2 => ?_⟩
  · have hdec : steamWantedSet q = serviceDecision q := by
      unfold steamWantedSet
      rw [h.gen, e]
    rw [hdec] at hg hr hf
    exact (serviceDecision_decided q).decidedAs h.ground h.mayFill.symm hg hr fun _ => ⟨hf, hsw⟩
  · rw [hcool e, returnFromCooling_barred (hbar.trans hb)] at hg hr
    exact ⟨hg.trans h.gen, hr.trans h.row⟩
  · rw [hcool e, returnFromCooling_wet (hbar.trans hb) (by rwa [h.gen]), h.mayFill, h.gen,
      enterGen_eq] at hg hr hf
    by_cases hlow : s.gen.level = .low ∧ s.mayFill = true
    · rw [if_pos hlow] at hg hr hf
      refine ⟨(congrArg Generator.state hg).trans rfl, ?_, fun _ => ⟨hf.trans hfresh, ?_⟩,
        fun h => ?_⟩
      · rw [hr, hg, ← hrating]
        rfl
      · rw [hg]
        rfl
      · exact absurd hlow fun hc => h.elim (fun h => h hc.1)
          fun h => Bool.noConfusion (hc.2.symm.trans h)
    · rw [if_neg hlow] at hg hr hf
      refine ⟨(congrArg Generator.state hg).trans rfl, ?_, fun h => absurd h hlow,
        fun _ => hf.trans h.fill⟩
      rw [hr, hg, ← hrating]
      rfl
  · rw [hcool e, returnFromCooling_dry (hbar.trans hb) (by rwa [h.gen]), h.mayFill,
      enterGen_eq] at hg hr hf
    cases hm : s.mayFill
    · rw [hm] at hg hf
      exact ⟨fun h => Bool.noConfusion h, fun _ => ⟨hg.trans h.gen, hf.trans h.fill⟩⟩
    · rw [hm] at hg hr hf
      refine ⟨fun _ => ⟨?_, ?_, hf.trans hfresh⟩, fun h => Bool.noConfusion h⟩
      · rw [hg]
        rfl
      · rw [hr]
        rfl
  · have hother : steamWantedSet q = q := by
      unfold steamWantedSet
      rw [h.gen]
      cases e : s.gen.state <;> simp_all
    rw [hother] at hg
    exact hg.trans h.gen

/-- A CLIMATE SET that is taken, as the request answers it (R11). -/
theorem climateSetRequest_taken {p : Payload} {f : ClimateFields} {b : Block} (hp : p.length = 6)
    (hf : climateFields p = some f) (hd : b.descale.kept.phase = .idle) (hr : b.run.state = .idle)
    (ho : b.climate.overtemp = false) :
    climateSetRequest p b = answerOk (climateBytes (takeClimateSet f.clamped b).climate)
      (takeClimateSet f.clamped b) := by
  have hn : ¬ descaling b = true := by simp [descaling, hd]
  unfold climateSetRequest
  rw [if_neg (not_not.mpr hp), hf]
  dsimp only
  rw [if_neg hn, if_neg (not_not.mpr hr), if_neg (ne_true_of_eq_false ho)]

theorem climateSet_decides {p : Payload} {s : State} {f : ClimateFields} (hs : Answers s)
    (hp : p.length = 6) (hf : climateFields p = some f) (hx : f.mode.isSteam = true)
    (hd : s.descale.kept.phase = .idle) (hr : s.run.state = .idle)
    (ho : s.climate.overtemp = false) (hc : s.climate.state = .off)
    (hw : s.climate.steamWanted = false) :
    ∃ t, exec (.climateSet p) s = .next t ∧ t.climate.steamWanted = true ∧
      SteamSet s.toBlock.mayFill s.toBlock t.toBlock := by
  have hoff := heard_off (b := s.toBlock) hc
  obtain ⟨c, hcw, htake⟩ := takeClimateSet_steam (x := f.clamped) (b := heard s.toBlock) hoff.off
    ((heard_steamWanted s.toBlock).trans hw) hx
  have ha := climateSetRequest_taken (b := heard s.toBlock) hp hf
    (by rw [heard_descale]; exact hd) ((heard_runState s.toBlock).trans hr)
    ((heard_overtemp s.toBlock).trans ho)
  rw [htake] at ha
  have he := request_answers hs 0x10#8 (climateSetRequest p)
  rw [ha] at he
  refine ⟨_, he, ?_⟩
  have hground := heard_ground s.toBlock
  have hstand : ServiceStands s.toBlock (setClimate c (heard s.toBlock)) :=
    ⟨⟨hground.kept, hground.straps, hground.account, hground.wall⟩, hoff.gen,
      congrArg PerLoad.gen hoff.requests, heard_fill s.toBlock, heard_mayFill s.toBlock⟩
  have hframe := steamWantedSet_frame (setClimate c (heard s.toBlock))
  have hclimate : (steamWantedSet (setClimate c (heard s.toBlock))).climate = c :=
    (congrArg Block.climate hframe).trans rfl
  have hswitches : (steamWantedSet (setClimate c (heard s.toBlock))).switches =
      (setClimate c (heard s.toBlock)).switches := (congrArg Block.switches hframe).trans rfl
  generalize setClimate c (heard s.toBlock) = q at hstand hclimate hswitches
  obtain ⟨hreq, -, hcl⟩ := finishEvent_keeps s.toBlock
    (replied 0x10#8 .ok (climateBytes (steamWantedSet q).climate) (steamWantedSet q))
  obtain ⟨fg, ff, -, -, fs⟩ := finishEvent_water s.toBlock
    (replied 0x10#8 .ok (climateBytes (steamWantedSet q).climate) (steamWantedSet q))
  have hwant : (steamWantedSet q).climate.steamWanted = true := by rw [hclimate]; exact hcw
  refine ⟨(congrArg Climate.steamWanted hcl).trans hwant, ?_⟩
  exact hstand.steamSet fg (congrArg PerLoad.gen hreq) ff (fs.trans hswitches)

/-- Settles O33: each event is brought to the service decision, or to the return from COOLING, by
the lemma of its own; what the decision makes of the generator is said once (`ServiceDecided`). -/
theorem generatorEntersService : Obligations.GeneratorEntersService := by
  unfold Obligations.GeneratorEntersService
  extract_lets serviceFill decided mayFill
  refine ⟨fun s hl hs hg hd hr => tankInsertion_decides hl hs hg hd hr,
    fun x s hs hg h hx => attentionClose_decides hs hg h hx,
    fun s hs hg hw hp hsw => generatorClear_decides hs hg hw hp hsw,
    fun e wet s hl hs hi hr hw ho hd hraw => electrodeChange_decides hl hs hi hr hw ho hd hraw, ?_⟩
  intro p s hs hp f hf hx hd hr ho hc hw
  exact climateSet_decides hs hp hf hx hd hr ho hc hw

end Sys2Proof.Machine
end

section
/-! SUPPORT. The wall's samples move the generator (R45, R47, R50, R53, R58, R59, R162). -/

namespace Sys2Proof.Machine

/-! ### What a sample delivers (R158 to R160) -/

theorem take_valid_some {a : Analog} (h : a.validity = .valid) (v : Int) :
    (a.take (some v)).2 = .sample v := by
  unfold Analog.take
  rw [h]
  rfl

theorem take_valid_none_few {a : Analog} (h : a.validity = .valid) (hr : a.run < 3) :
    (a.take none).2 = .nothing := by
  unfold Analog.take
  rw [h]
  dsimp only [Analog.sampleValid]
  rw [if_pos (by omega)]

theorem take_valid_none_many {a : Analog} (h : a.validity = .valid) (hr : 3 ≤ a.run) :
    (a.take none).2 = .becameInvalid := by
  unfold Analog.take
  rw [h]
  dsimp only [Analog.sampleValid]
  rw [if_neg (by omega)]

theorem take_invalid_few {a : Analog} (h : a.validity = .invalid) (hr : a.run < 3) (v : Int) :
    (a.take (some v)).2 = .nothing := by
  unfold Analog.take
  rw [h]
  dsimp only [Analog.sampleInvalid]
  rw [if_pos (by omega)]

theorem take_invalid_many {a : Analog} (h : a.validity = .invalid) (hr : 3 ≤ a.run) (v : Int) :
    (a.take (some v)).2 = .becameValid v ∧ (a.take (some v)).1.validity = .valid := by
  unfold Analog.take
  rw [h]
  dsimp only [Analog.sampleInvalid]
  rw [if_neg (by omega)]
  exact ⟨rfl, rfl⟩

/-- A delivery that carries a value carries the value sampled. -/
theorem take_value {s : Option Int} {a : Analog} {v : Int}
    (h : (a.take s).2 = .sample v ∨ (a.take s).2 = .becameValid v) : s = some v := by
  unfold Analog.take Analog.sampleStarting Analog.sampleValid Analog.sampleInvalid at h
  cases s <;> grind

/-! ### The cavity's sample (R4, R22, R125, R162) -/

/-- What a cavity sample without overtemperature leaves: the generator's demand and priority move,
and its state, its channels, the wall channel and what steam is wanted stay. -/
structure CavityMoved (a b : Block) : Prop where
  frame : b = { a with
    run := b.run, climate := b.climate, gen := b.gen, share := b.share, attn := b.attn
    sensors := b.sensors }
  gen : b.gen = { a.gen with demand := b.gen.demand, prio := b.gen.prio }
  wanted : b.climate.steamWanted = a.climate.steamWanted
  overtemp : b.climate.overtemp = a.climate.overtemp
  wall : b.sensors.generator = a.sensors.generator

namespace CavityMoved

theorem refl (a : Block) : CavityMoved a a := ⟨rfl, rfl, rfl, rfl, rfl⟩

theorem trans {a b c : Block} (h : CavityMoved a b) (g : CavityMoved b c) : CavityMoved a c where
  frame := by rw [g.frame, h.frame]
  gen := by rw [g.gen, h.gen]
  wanted := g.wanted.trans h.wanted
  overtemp := g.overtemp.trans h.overtemp
  wall := g.wall.trans h.wall

theorem ofHold {a b : Block} (h : HoldMoved a b) : CavityMoved a b where
  frame := h.eq.trans (by rw [h.eq])
  gen := h.gen
  wanted := by rw [h.climate]
  overtemp := by rw [h.climate]
  wall := by rw [h.eq]

theorem ofAttn (x : Attn) (b : Block) : CavityMoved b (setAttn x b) := ⟨rfl, rfl, rfl, rfl, rfl⟩

theorem ofAnalog (x : Analog) (b : Block) : CavityMoved b (setAnalog .cavity x b) :=
  ⟨rfl, rfl, rfl, rfl, rfl⟩

theorem runSensor (v : Bool) (b : Block) : CavityMoved b (runSensor v b) := by
  unfold Machine.runSensor
  split
  · have hc : CavityMoved b (setRun { b.run with sensorCount := 0 } b) := ⟨rfl, rfl, rfl, rfl, rfl⟩
    exact hc.trans (ofHold (.putHold _ _))
  · exact refl b

theorem sensorFollowed (v : Bool) (b : Block) :
    CavityMoved b (Machine.runSensor v (putSensorReason v b)) :=
  (ofHold (.putReasons _ b)).trans (runSensor v _)

theorem cavitySample {v : Int} {b : Block} (h : v < 3000 ∨ b.climate.overtemp = true) :
    CavityMoved b (cavitySample v b) := by
  have hn : ¬ (3000 ≤ v ∧ b.climate.overtemp = false) := fun ⟨h1, h2⟩ =>
    h.elim (fun e => absurd h1 (not_le.mpr e)) fun e => Bool.noConfusion (h2.symm.trans e)
  rw [show Machine.cavitySample v b = b from if_neg hn]
  exact refl b

theorem deliverCavity {d : Delivery} {b : Block} (h : ∀ v, d = .sample v ∨ d = .becameValid v →
    v < 3000 ∨ b.climate.overtemp = true) : CavityMoved b (deliverCavity d b) := by
  unfold Machine.deliverCavity
  split
  next => exact refl b
  next v => exact cavitySample (h v (.inl rfl))
  next v =>
    have hf := (ofAttn (b.attn.clearSource .cavity) b).trans (sensorFollowed false _)
    exact hf.trans (cavitySample (by rw [hf.overtemp]; exact h v (.inr rfl)))
  next => exact (ofAttn _ b).trans (sensorFollowed true _)
  next => exact ofAttn _ b

theorem sampleChannel {x : Sample} {b : Block}
    (h : ∀ v, inSpan .cavity x = some v → v < 3000 ∨ b.climate.overtemp = true) :
    CavityMoved b (sampleChannel .cavity x b) := by
  unfold Machine.sampleChannel
  extract_lets r
  exact (ofAnalog r.1 b).trans (deliverCavity fun v hv => h v (take_value hv))

end CavityMoved

/-! ### The other channels' samples (R162, R164) -/

/-- Nothing moved but the sensors and the entries. -/
def SourcesMoved (a b : Block) : Prop := b = { a with attn := b.attn, sensors := b.sensors }

namespace SourcesMoved

theorem refl (a : Block) : SourcesMoved a a := rfl

theorem trans {a b c : Block} (h : SourcesMoved a b) (g : SourcesMoved b c) : SourcesMoved a c := by
  unfold SourcesMoved at *
  rw [g, h]

theorem ofAttn (x : Attn) (b : Block) : SourcesMoved b (setAttn x b) := rfl

theorem ite {c : Prop} {i : Decidable c} {a b d : Block} (hb : SourcesMoved a b)
    (hd : SourcesMoved a d) : SourcesMoved a (if c then b else d) := by split <;> assumption

theorem deliverProbe (d : Delivery) (b : Block) : SourcesMoved b (deliverProbe d b) := by
  unfold Machine.deliverProbe
  split
  · exact refl b
  · exact refl b
  · exact ite (refl b) (ofAttn _ b)
  all_goals exact ofAttn _ b

theorem deliverMoisture (d : Delivery) (b : Block) : SourcesMoved b (deliverMoisture d b) := by
  unfold Machine.deliverMoisture
  split
  · exact refl b
  · exact refl b
  all_goals exact ofAttn _ b

theorem sampleProbe {c : AnalogChannel} (h : c = .probe1 ∨ c = .probe2 ∨ c = .probe3) (x : Sample)
    (b : Block) : SourcesMoved b (sampleChannel c x b) := by
  unfold Machine.sampleChannel
  extract_lets r
  rcases h with rfl | rfl | rfl <;>
    exact trans (b := setSensors _ b) rfl (deliverProbe r.2 _)

theorem sampleProbes (x : Samples) (b : Block) : SourcesMoved b (sampleProbes x b) := by
  unfold Machine.sampleProbes
  exact ite (((sampleProbe (.inl rfl) x.probe1 b).trans
    (sampleProbe (.inr (.inl rfl)) x.probe2 _)).trans (sampleProbe (.inr (.inr rfl)) x.probe3 _))
    (refl b)

theorem sampleMoisture (x : Sample) (b : Block) :
    SourcesMoved b (sampleChannel .moisture x b) := by
  unfold Machine.sampleChannel
  extract_lets r
  exact trans (b := setSensors _ b) rfl (deliverMoisture r.2 _)

end SourcesMoved

/-! ### The wall's sample (R47, R50, R53, R54) -/

/-- No sample delivered fires the dry-fire latch. -/
def Cool (d : Delivery) (b : Block) : Prop :=
  ∀ v, d = .sample v ∨ d = .becameValid v → v < 1600 ∨ b.gen.dryFire = true

theorem wallSample_cool {v : Int} {b : Block} (h : v < 1600 ∨ b.gen.dryFire = true) :
    wallSample v b = descaleWallSample v (genWallSample v b) :=
  if_neg fun ⟨h1, h2⟩ =>
    h.elim (fun e => absurd h1 (not_le.mpr e)) fun e => Bool.noConfusion (h2.symm.trans e)

theorem deliverGenerator_core {d : Delivery} {b : Block} (h : Cool d b) :
    SameCore b (deliverGenerator d b) := by
  have hc := SameCore.closed b
  have hr := SameCore.refl b
  have hs : ∀ {v : Int} {c : Block}, (v < 1600 ∨ c.gen.dryFire = true) → SameCore b c →
      SameCore b (wallSample v c) := fun hv hb => by
    rw [wallSample_cool hv]
    exact descaleWallSample_closed hc _ (genWallSample_closed hc _ hb)
  unfold deliverGenerator
  split
  next => exact hr
  next v => exact hs (h v (.inl rfl)) hr
  next v =>
    have hv := genChannelValid_closed hc (hc.sourceCleared .generator b hr)
    exact hs (by rw [hv.dryFire]; exact h v (.inr rfl)) hv
  next =>
    have hv := genChannelInvalid_closed hc (raiseSource_closed hc .generator hr)
    exact descaleWallInvalid_closed hc hv
  next => exact raiseSource_closed hc .generator hr

/-! ### The sampling expiry -/

/-- The part as the wall's sample is delivered: the cavity sampled, the wall's record replaced. -/
structure WallTaken (a : Analog) (s w : Block) : Prop where
  frame : w = { s with
    run := w.run, climate := w.climate, gen := w.gen, share := w.share, attn := w.attn
    sensors := w.sensors }
  gen : w.gen = { s.gen with demand := w.gen.demand, prio := w.gen.prio }
  wanted : w.climate.steamWanted = s.climate.steamWanted
  wall : w.sensors.generator = a

theorem CavityMoved.wallTaken {s c : Block} (h : CavityMoved s c) (a : Analog) :
    WallTaken a s (setAnalog .generator a c) where
  frame := by
    rw [h.frame]
    rfl
  gen := h.gen
  wanted := h.wanted
  wall := rfl

/-- The generator's part, as the end of the event leaves it. -/
structure WaterLeft (d t : Block) : Prop where
  gen : t.gen = d.gen
  requests : t.share.requests = d.share.requests
  fill : t.fill = d.fill
  drain : t.drain = d.drain

theorem samplingExpiry_exec {x : Samples} {s : State} (hl : live s.toBlock = true)
    (hs : s.life.settling = none)
    (hcav : ∀ v, inSpan .cavity x.cavity = some v → v < 3000 ∨ s.climate.overtemp = true)
    (hwall : ∀ v, inSpan .generator x.generator = some v → v < 1600 ∨ s.gen.dryFire = true) :
    ∃ w t, WallTaken (s.sensors.generator.take (inSpan .generator x.generator)).1 s.toBlock w ∧
      exec (.samplingExpiry x) s = .next t ∧
      WaterLeft (deliverGenerator (s.sensors.generator.take (inSpan .generator x.generator)).2 w)
        t.toBlock := by
  have hc := CavityMoved.sampleChannel hcav
  have hw := hc.wallTaken (s.sensors.generator.take (inSpan .generator x.generator)).1
  have hg : sampleChannel .generator x.generator (sampleChannel .cavity x.cavity s.toBlock) =
      deliverGenerator (s.sensors.generator.take (inSpan .generator x.generator)).2
        (setAnalog .generator (s.sensors.generator.take (inSpan .generator x.generator)).1
          (sampleChannel .cavity x.cavity s.toBlock)) := by
    rw [← hc.wall]
    rfl
  have hcool : Cool (s.sensors.generator.take (inSpan .generator x.generator)).2
      (setAnalog .generator (s.sensors.generator.take (inSpan .generator x.generator)).1
        (sampleChannel .cavity x.cavity s.toBlock)) := fun v hv => by
    rw [hw.gen]
    exact hwall v (take_value hv)
  have hcore := deliverGenerator_core hcool
  have hlife := hcore.life.trans (congrArg Block.life hw.frame)
  have hrest := (SourcesMoved.sampleProbes x _).trans (SourcesMoved.sampleMoisture x.moisture
    (sampleProbes x (sampleChannel .generator x.generator
      (sampleChannel .cavity x.cavity s.toBlock))))
  have htake : takeSamples x s.toBlock = sampleChannel .moisture x.moisture (sampleProbes x
    (sampleChannel .generator x.generator (sampleChannel .cavity x.cavity s.toBlock))) := rfl
  rw [← htake, hg] at hrest
  generalize setAnalog .generator (s.sensors.generator.take (inSpan .generator x.generator)).1
    (sampleChannel .cavity x.cavity s.toBlock) = w at hw hlife hrest
  generalize hd : deliverGenerator
    (s.sensors.generator.take (inSpan .generator x.generator)).2 w = d at hlife hrest
  have hsettled : (takeSamples x s.toBlock).life.settling = none := by
    rw [hrest, hlife]
    exact hs
  have hx := onBlock_eq (f := event (sampling x)) (s := s) (event_live hl)
  have hcount : sampling x s.toBlock = takeSamples x s.toBlock := by
    unfold sampling countSettling
    rw [hsettled]
  rw [hcount] at hx
  refine ⟨w, _, hw, hx, ?_⟩
  rw [hd]
  generalize takeSamples x s.toBlock = m at hrest
  obtain ⟨fg, ff, fd, -, -⟩ := finishEvent_water s.toBlock m
  have fr := (finishEvent_keeps s.toBlock m).1
  rw [hrest] at fg ff fd fr
  rw [hrest]
  exact ⟨fg, fr, ff, fd⟩

/-! ### The generator at a valid sample (R47, R50) -/

/-- The generator's service drain as it is claimed (R50, R51). -/
def freshDrain (b : Block) : ChannelRec :=
  { state := if b.switches.tank.deb then .active else .paused
    owner := .generator, mode := .sourceSync, target := none, limit := 600
    strokes := 0, runOn := if b.gen.level = .dry then some 0 else none
    flow := 0, noFlow := 0, divider := 0, pauseMs := 0
    endReason := none, levelAtEnd := none }

theorem claimedRecord_serviceDrain (b : Block) :
    claimedRecord serviceDrainClaim b = freshDrain b := by
  unfold claimedRecord freshDrain
  cases b.gen.level <;> rfl

/-- The part with the service drain claimed. -/
def drainClaimed (b : Block) : Block :=
  setGen { b.gen with held := some .serviceDrain } (setChannel .drain (freshDrain b) b)

theorem genClaim_serviceDrain (b : Block) : genClaim serviceDrainClaim .serviceDrain b =
    if b.mayDrain then some (drainClaimed b) else none := by
  unfold genClaim
  rw [claim_drain rfl rfl, claimedRecord_serviceDrain]
  split <;> rfl

theorem genWallSample_heating {v : Int} {b : Block} (h : b.gen.state = .heating) :
    genWallSample v b = if 980 ≤ v then enterGen .ready b else b := by
  unfold genWallSample
  rw [h]

theorem genWallSample_ready {v : Int} {b : Block} (h : b.gen.state = .ready) :
    genWallSample v b = if v < 940 then enterGen .heating b else b := by
  unfold genWallSample
  rw [h]

theorem genWallSample_cooling {v : Int} {b : Block} (h : b.gen.state = .cooling) :
    genWallSample v b =
      if v < 800 ∧ b.mayDrain = true then enterGen .draining (drainClaimed b) else b := by
  unfold genWallSample
  rw [h, genClaim_serviceDrain]
  by_cases hv : v < 800 <;> cases b.mayDrain <;> simp [hv]

/-- No threshold moves a generator that neither heats nor boils nor cools. -/
theorem genWallSample_other {v : Int} {b : Block} (h1 : b.gen.state ≠ .heating)
    (h2 : b.gen.state ≠ .ready) (h3 : b.gen.state ≠ .cooling) : genWallSample v b = b := by
  unfold genWallSample
  cases e : b.gen.state <;> simp_all

theorem genWallSample_descale {v : Int} {b : Block} (h : b.gen.state ≠ .descale) :
    (genWallSample v b).gen.state ≠ .descale := by
  unfold genWallSample
  split
  · exact Closed.ite (P := fun c => c.gen.state ≠ .descale)
      (by rw [enterGen_state]; decide) h
  · exact Closed.ite (P := fun c => c.gen.state ≠ .descale)
      (by rw [enterGen_state]; decide) h
  · rw [genClaim_serviceDrain]
    split
    · cases b.mayDrain
      · exact h
      · change (enterGen .draining (drainClaimed b)).gen.state ≠ .descale
        rw [enterGen_state]
        decide
    · exact h
  · exact h

/-- Outside DESCALE the thresholds of the generator are all that a cool wall sample meets. -/
theorem wallSample_outside {v : Int} {b : Block} (h : v < 1600 ∨ b.gen.dryFire = true)
    (hd : b.gen.state ≠ .descale) : wallSample v b = genWallSample v b := by
  rw [wallSample_cool h]
  exact if_pos (.inl (genWallSample_descale hd))

/-- In DESCALE the wall moves the procedure alone (R85, R89). -/
theorem wallSample_descale {v : Int} {b : Block} (h : v < 1600 ∨ b.gen.dryFire = true)
    (hd : b.gen.state = .descale) : (wallSample v b).gen.state = .descale := by
  have hw := genState_work .descale
  rw [wallSample_cool h, genWallSample_other (by rw [hd]; decide) (by rw [hd]; decide)
    (by rw [hd]; decide)]
  unfold descaleWallSample soakSample
  split
  · exact hd
  · split
    · split
      · exact hw.giveHeater _ hd
      · split
        · exact hw.giveHeater _ hd
        · exact hd
    · split
      · exact hw.claimPhaseTransfer trivial hd
      · exact hd

/-- The generator heats at its full rating (O35). -/
def HeatsAs (s t : Block) : Prop :=
  t.gen.state = .heating ∧ t.share.requests.gen = ⟨(rating s.straps.cavity).gen, t.gen.prio⟩

/-- The generator boils at the demand it was handed (O35). -/
def BoilsAs (s t : Block) : Prop :=
  t.gen.state = .ready ∧
    t.share.requests.gen = ⟨t.gen.demand * (rating s.straps.cavity).gen / 1000, t.gen.prio⟩

/-- The generator has followed a valid wall sample, at the end of its event (O35). -/
def FollowedWall (v : Int) (s t : Block) : Prop :=
  (s.gen.state = .heating → 980 ≤ v → BoilsAs s t) ∧
  (s.gen.state = .heating → v < 980 → t.gen.state = .heating) ∧
  (s.gen.state = .ready → v < 940 → HeatsAs s t) ∧
  (s.gen.state = .ready → 940 ≤ v → t.gen.state = .ready) ∧
  (s.gen.state = .cooling → v < 800 → s.mayDrain = true →
    t.gen.state = .draining ∧ t.share.requests.gen.watts = 0 ∧
    t.gen.held = some .serviceDrain ∧ t.drain = freshDrain s) ∧
  (s.gen.state = .cooling → 800 ≤ v ∨ s.mayDrain = false →
    t.gen.state = .cooling ∧ t.drain = s.drain) ∧
  (s.gen.state = .filling ∨ s.gen.state = .draining ∨ s.gen.state = .waitWater ∨
      s.gen.state = .descale ∨ s.gen.state = .fault →
    t.gen.state = s.gen.state)

section
variable {a : Analog} {s w t : Block} {v : Int} (h : WallTaken a s w)
include h

theorem WallTaken.state : w.gen.state = s.gen.state := (congrArg Generator.state h.gen).trans rfl

theorem WallTaken.rating : genRating w = (rating s.straps.cavity).gen := by
  unfold genRating
  rw [h.frame]

theorem WallTaken.fill_eq : w.fill = s.fill := (congrArg Block.fill h.frame).trans rfl

theorem WallTaken.drain_eq : w.drain = s.drain := (congrArg Block.drain h.frame).trans rfl

theorem WallTaken.mayDrain : w.mayDrain = s.mayDrain := by
  unfold Block.mayDrain
  rw [h.fill_eq, h.drain_eq]

theorem WallTaken.freshDrain : freshDrain w = freshDrain s := by
  unfold Machine.freshDrain
  rw [h.gen, h.frame]

/-- The generator follows a valid wall sample. -/
theorem WallTaken.followed (hv : v < 1600 ∨ s.gen.dryFire = true)
    (hl : WaterLeft (wallSample v w) t) : FollowedWall v s t := by
  have hst := h.state
  have hcool : v < 1600 ∨ w.gen.dryFire = true := by
    rw [h.gen]
    exact hv
  obtain ⟨hg, hr, -, hd⟩ := hl
  have hgen : ∀ {st : GenState}, s.gen.state = st → st ≠ .descale →
      wallSample v w = genWallSample v w := fun e hne =>
    wallSample_outside hcool (by rw [hst, e]; exact hne)
  refine ⟨fun e hx => ?_, fun e hx => ?_, fun e hx => ?_, fun e hx => ?_, fun e hx hm => ?_,
    fun e hx => ?_, fun e => ?_⟩
  · rw [hgen e (by decide), genWallSample_heating (hst.trans e), if_pos hx, enterGen_eq] at hg hr
    unfold BoilsAs
    rw [hg, hr, ← h.rating]
    exact ⟨rfl, rfl⟩
  · rw [hgen e (by decide), genWallSample_heating (hst.trans e), if_neg (not_le.mpr hx)] at hg
    rw [hg, hst, e]
  · rw [hgen e (by decide), genWallSample_ready (hst.trans e), if_pos hx, enterGen_eq] at hg hr
    unfold HeatsAs
    rw [hg, hr, ← h.rating]
    exact ⟨rfl, rfl⟩
  · rw [hgen e (by decide), genWallSample_ready (hst.trans e), if_neg (not_lt.mpr hx)] at hg
    rw [hg, hst, e]
  · rw [hgen e (by decide), genWallSample_cooling (hst.trans e),
      if_pos ⟨hx, h.mayDrain.trans hm⟩, enterGen_eq] at hg hr hd
    rw [hg, hr, hd]
    exact ⟨rfl, rfl, rfl, h.freshDrain⟩
  · have hn : ¬ (v < 800 ∧ w.mayDrain = true) := fun ⟨h1, h2⟩ =>
      hx.elim (fun e => absurd h1 (not_lt.mpr e))
        fun e => Bool.noConfusion (e.symm.trans (h.mayDrain.symm.trans h2))
    rw [hgen e (by decide), genWallSample_cooling (hst.trans e), if_neg hn] at hg hd
    rw [hg, hst, hd, h.drain_eq]
    exact ⟨e, rfl⟩
  · by_cases hdes : s.gen.state = .descale
    · rw [hg, wallSample_descale hcool (hst.trans hdes), hdes]
    · have hother : genWallSample v w = w := genWallSample_other
        (by rw [hst]; rcases e with e | e | e | e | e <;> rw [e] <;> decide)
        (by rw [hst]; rcases e with e | e | e | e | e <;> rw [e] <;> decide)
        (by rw [hst]; rcases e with e | e | e | e | e <;> rw [e] <;> decide)
      rw [hgen rfl hdes, hother] at hg
      rw [hg, hst]

/-- An IDLE generator does not follow the wall. -/
theorem WallTaken.idle (hv : v < 1600 ∨ s.gen.dryFire = true)
    (hl : WaterLeft (wallSample v w) t) (hi : s.gen.state = .idle) : t.gen.state = .idle := by
  have hw : w.gen.state = .idle := h.state.trans hi
  have hcool : v < 1600 ∨ w.gen.dryFire = true := by
    rw [h.gen]
    exact hv
  rw [hl.gen, wallSample_outside hcool (by rw [hw]; decide),
    genWallSample_other (by rw [hw]; decide) (by rw [hw]; decide) (by rw [hw]; decide)]
  exact hw

theorem WallTaken.sourced (x : Attn) : WallTaken a s (setAttn x w) where
  frame := by
    rw [h.frame]
    rfl
  gen := h.gen
  wanted := h.wanted
  wall := h.wall

/-! ### The wall channel becomes invalid (R53) -/

/-- What the loss of the wall channel makes of the generator, at the end of its event (O35). -/
theorem WallTaken.lost (hl : WaterLeft (deliverGenerator .becameInvalid w) t) :
    (s.gen.state = .filling ∨ s.gen.state = .heating ∨ s.gen.state = .ready →
      t.gen.state = .cooling ∧ t.share.requests.gen.watts = 0 ∧
      (s.fill.inFlight = true → s.fill.owner = .generator →
        t.gen.account = s.filledAccount ∧ t.gen.held = none ∧
        t.fill = { s.fill with
          state := .idle, owner := .none, endReason := some .stopped
          levelAtEnd := some s.gen.level })) ∧
    (s.gen.state ≠ .filling → s.gen.state ≠ .heating → s.gen.state ≠ .ready →
      t.gen.state = s.gen.state) := by
  have hq : WallTaken a s (raiseSource .generator w) := h.sourced _
  have hdel : deliverGenerator .becameInvalid w =
      descaleWallInvalid (genChannelInvalid (raiseSource .generator w)) := rfl
  rw [hdel] at hl
  generalize raiseSource .generator w = q at hq hl
  have hst := hq.state
  refine ⟨fun e => ?_, fun h1 h2 h3 => ?_⟩
  · have hserve : genChannelInvalid q = enterGen .cooling (stopFill q) := by
      unfold genChannelInvalid
      rw [hst]
      rcases e with e | e | e <;> rw [e]
    have hstop := serviceStopped q
    have hsame : descaleWallInvalid (enterGen .cooling (stopFill q)) =
        enterGen .cooling (stopFill q) :=
      if_neg fun ⟨e, _⟩ => GenState.noConfusion (hstop.state.symm.trans e)
    rw [hserve, hsame] at hl
    obtain ⟨hg, hr, hf, -⟩ := hl
    rw [hg, hr, hf]
    refine ⟨hstop.state, hstop.row, fun h1 h2 => ?_⟩
    have hacc : q.filledAccount = s.filledAccount := by
      unfold Block.filledAccount
      rw [hq.gen, hq.frame]
    have hlevel : q.gen.level = s.gen.level := (congrArg Generator.level hq.gen).trans rfl
    have hfilled := hstop.filled ((refilling_iff q).mpr (by rw [hq.fill_eq]; exact ⟨h1, h2⟩))
    rwa [hacc, hq.fill_eq, hlevel] at hfilled
  · have hserve : genChannelInvalid q = q := by
      unfold genChannelInvalid
      rw [hst]
      cases e : s.gen.state <;> simp_all
    rw [hserve] at hl
    have hkeep : (descaleWallInvalid q).gen.state = s.gen.state := by
      unfold descaleWallInvalid
      split
      · exact (genState_work s.gen.state).giveHeater _ hst
      · exact hst
    rw [hl.gen, hkeep]

/-! ### The wall channel becomes valid (R45, R53) -/

theorem WallTaken.locked : steamLock w =
    (s.descale.kept.rinseOwed || decide (lockThreshold s.straps.cavity ≤ s.gen.account.scale)) := by
  unfold steamLock lockByScale
  rw [h.gen, h.frame, Bool.or_comm]

theorem WallTaken.short : w.short = s.short := by
  unfold Block.short
  rw [h.gen]

theorem WallTaken.mayFill : w.mayFill = s.mayFill := mayFill_congr h.fill_eq h.drain_eq

theorem WallTaken.freshFill : freshFill w = freshFill s := by
  unfold Machine.freshFill
  rw [h.frame]

/-- What the decision at a wall that became valid makes of an IDLE generator with steam wanted, at
the end of its event (O35). -/
def DecidedAtWall (v : Int) (s t : Block) : Prop :=
  let locked : Bool :=
    s.descale.kept.rinseOwed || decide (lockThreshold s.straps.cavity ≤ s.gen.account.scale)
  (locked = true ∨ (s.short = true ∧ s.mayFill = false) →
    t.gen.state = .idle ∧ t.share.requests.gen.watts = 0) ∧
  (locked = false → s.short = false → v < 980 → HeatsAs s t) ∧
  (locked = false → s.short = false → 980 ≤ v → BoilsAs s t) ∧
  (locked = false → s.short = true → s.mayFill = true →
    t.gen.state = .filling ∧ t.share.requests.gen.watts = 0 ∧ t.fill = Machine.freshFill s)

theorem WallTaken.decided (ha : a.validity = .valid) (hv : v < 1600 ∨ s.gen.dryFire = true)
    (hl : WaterLeft (wallSample v (serviceDecision w)) t) : DecidedAtWall v s t := by
  have hdec := serviceDecision_decided w
  have hok : w.sensors.generator.ok = true := by
    rw [h.wall]
    exact decide_eq_true ha
  have hrating : genRating (serviceDecision w) = (Machine.rating s.straps.cavity).gen := by
    rw [← h.rating]
    unfold genRating
    rw [hdec.frame]
  generalize serviceDecision w = g at hdec hrating hl
  have hcool : v < 1600 ∨ g.gen.dryFire = true := by
    rw [hdec.gen, h.gen]
    exact hv
  rw [wallSample_outside hcool hdec.not_descale] at hl
  have hstay : g.gen.state = .idle ∨ g.gen.state = .filling → genWallSample v g = g := fun e =>
    genWallSample_other (by rcases e with e | e <;> rw [e] <;> decide)
      (by rcases e with e | e <;> rw [e] <;> decide)
      (by rcases e with e | e <;> rw [e] <;> decide)
  have hprio : g.gen.prio = w.gen.prio := (congrArg Generator.prio hdec.gen).trans rfl
  have hheats : steamLock w = false → s.short = false →
      g.gen.state = .heating ∧ g.share.requests.gen = ⟨genRating w, w.gen.prio⟩ := fun h1 h2 =>
    hdec.heats h1 hok (h.short.trans h2)
  unfold DecidedAtWall
  rw [← h.locked]
  refine ⟨fun hx => ?_, fun h1 h2 hx => ?_, fun h1 h2 hx => ?_, fun h1 h2 h3 => ?_⟩
  · have hidle : g.gen.state = .idle ∧ g.share.requests.gen.watts = 0 := by
      cases hk : steamLock w
      · obtain ⟨h2, h3⟩ := hx.resolve_left (ne_true_of_eq_false hk)
        exact hdec.waits hk hok (h.short.trans h2) (h.mayFill.trans h3)
      · exact hdec.barred (.inl hk)
    rw [hstay (.inl hidle.1)] at hl
    rw [hl.gen, hl.requests]
    exact hidle
  · obtain ⟨e1, e2⟩ := hheats h1 h2
    rw [genWallSample_heating e1, if_neg (not_le.mpr hx)] at hl
    unfold HeatsAs
    rw [hl.gen, hl.requests, e2, hprio, h.rating]
    exact ⟨e1, rfl⟩
  · obtain ⟨e1, -⟩ := hheats h1 h2
    rw [genWallSample_heating e1, if_pos hx, enterGen_eq] at hl
    unfold BoilsAs
    rw [hl.gen, hl.requests, ← hrating]
    exact ⟨rfl, rfl⟩
  · obtain ⟨e1, e2, -, e3⟩ := hdec.fills h1 hok (h.short.trans h2) (h.mayFill.trans h3)
    rw [hstay (.inr e1)] at hl
    rw [hl.gen, hl.requests, hl.fill, e3]
    exact ⟨e1, e2, h.freshFill⟩

/-- The wall channel that becomes valid, at the end of its event. -/
theorem WallTaken.gained (ha : a.validity = .valid) (hv : v < 1600 ∨ s.gen.dryFire = true)
    (hl : WaterLeft (deliverGenerator (.becameValid v) w) t) :
    FollowedWall v s t ∧
      (s.gen.state = .idle → s.climate.steamWanted = false → t.gen.state = .idle) ∧
      (s.gen.state = .idle → s.climate.steamWanted = true → DecidedAtWall v s t) := by
  have hq : WallTaken a s (clearSource .generator w) := h.sourced _
  have hdel : deliverGenerator (.becameValid v) w =
      wallSample v (genChannelValid (clearSource .generator w)) := rfl
  rw [hdel] at hl
  generalize clearSource .generator w = q at hq hl
  have hst := hq.state
  by_cases hi : s.gen.state = .idle
  · have hvalid : genChannelValid q =
        if s.climate.steamWanted = true then serviceDecision q else q := by
      unfold genChannelValid
      rw [hst, hi, hq.wanted]
    rw [hvalid] at hl
    refine ⟨?_, fun _ hw => ?_, fun _ hw => ?_⟩
    · unfold FollowedWall
      rw [hi]
      simp
    · rw [if_neg (ne_true_of_eq_false hw)] at hl
      exact hq.idle hv hl hi
    · rw [if_pos hw] at hl
      exact hq.decided ha hv hl
  · have hvalid : genChannelValid q = q := by
      unfold genChannelValid
      rw [hst]
      cases e : s.gen.state <;> simp_all
    rw [hvalid] at hl
    exact ⟨hq.followed hv hl, fun e => absurd e hi, fun e => absurd e hi⟩

end

/-- Settles O35: the cavity's sample and the other channels leave the generator's state and its
channels, so what the wall delivers is all that moves them. -/
theorem generatorFollowsTheWall : Obligations.GeneratorFollowsTheWall := by
  unfold Obligations.GeneratorFollowsTheWall
  extract_lets serviceFill mayFill mayDrain heats boils followed
  intro x s hl hs hcav hwall a
  obtain ⟨w, t, hw, hx, hleft⟩ := samplingExpiry_exec hl hs hcav hwall
  refine ⟨t, hx, fun v hv ha => ?_, fun hv ha hr => ?_, fun hv ha hr => ?_, fun v hv ha => ?_⟩
  · rw [hv, take_valid_some ha] at hleft
    exact ⟨hw.followed (hwall v hv) hleft, hw.idle (hwall v hv) hleft⟩
  · rw [hv, take_valid_none_few ha hr] at hleft
    obtain ⟨hg, -, hf, hd⟩ := hleft
    exact ⟨(congrArg Generator.state hg).trans hw.state, hf.trans hw.fill_eq,
      hd.trans hw.drain_eq⟩
  · rw [hv, take_valid_none_many ha hr] at hleft
    exact hw.lost hleft
  · refine ⟨fun hr => ?_, fun hr => ?_⟩
    · rw [hv, take_invalid_few ha hr] at hleft
      obtain ⟨hg, -, -, hd⟩ := hleft
      exact ⟨(congrArg Generator.state hg).trans hw.state, hd.trans hw.drain_eq⟩
    · obtain ⟨hd, hvalid⟩ := take_invalid_many ha hr v
      rw [hv, hd] at hleft
      rw [hv] at hw
      exact hw.gained hvalid (hwall v hv) hleft

end Sys2Proof.Machine
end
